-- ==== Sys2Proof/Word.lean ====
section
/-! DEFINITION. The word type: a byte (00_scope R14). -/

namespace Sys2Proof

/-- A byte is 8 bits (R14). -/
abbrev Byte := BitVec 8

end Sys2Proof
end

