-- ==== Sys2Proof/Config.lean ====
section
/-! DEFINITION. Parameters the spec fixes for the hardware (00_scope R10, R12). The model needs no free value: see log 3. -/

namespace Sys2Proof.Config

/-- `WINDOW_BITS_MAX = 15` (R12, decision D6): `WIN` has `2^15` cells (R40). -/
def windowBitsMax : Nat := 15

/-- `GZIP_WINDOW_BITS = 15` (R12, R324, decision D5). -/
def gzipWindowBits : BitVec 4 := 15

/-- The window size a ZLIB operation has from `start` until its header is read (R26, R341). -/
def zlibStartWindowBits : BitVec 4 := 15

/-- The maximum code length of the literal/length and distance alphabets (R10, R140). -/
def maxBits : Nat := 15

/-- The maximum code length of the code-length alphabet (R10, R140). -/
def clMaxBits : Nat := 7

/-- The modulus of Adler32 (R281). -/
def adlerModulus : Nat := 65521

/-- The reflected generator polynomial of CRC32 (R285). -/
def crcPolynomial : BitVec 32 := 0xEDB88320

end Sys2Proof.Config
end

