-- ==== Sys2Proof/Syntax.lean ====
section
/-! DEFINITION. The names of the spec's phases, modes and errors, and the one inductive of stream elements
(30_encoding R104; one constructor for each row of spec/opcode_table.json). -/

namespace Sys2Proof

/-- `PHASE`: which rule fires next (10_state R24). Values 19 to 31 never occur and are not representable (U20, log 8). -/
inductive Phase where
  | idle | zlibHdr | gzipHdr | gzipExtra | gzipName | gzipComment | gzipHcrc | blockHdr | storedHdr | storedCopy
  | dynHdr | dynCllen | dynLens | symbol | copy | zlibTrailer | gzipTrailer | done | error
  deriving DecidableEq, Repr

/-- `MODE`: which wrapper surrounds the Deflate body (R26). Value 3 never stands in the register (U20, log 8). -/
inductive Mode where
  | raw | zlib | gzip
  deriving DecidableEq, Repr

/-- The error classes of 60_exceptions R375; `none` is code 0. -/
inductive ErrClass where
  | none | malformedHeader | unsupportedFeature | streamCorruption | checksumMismatch | unexpectedEndOfStream
  deriving DecidableEq, Repr

/-- The sub-causes of 60_exceptions R376; `none` is code 0. -/
inductive ErrSub where
  | none | zlibMethod | zlibWindow | zlibFcheck | gzipMagic | gzipMethod | blockType3 | zlibPresetDict
  | storedLenMismatch | invalidHuffmanCode | repeatWithoutPrevious | repeatOverrun | invalidLengthSymbol
  | invalidDistanceSymbol | invalidBackReference | adler32 | crc32 | isize | eos
  deriving DecidableEq, Repr

/-- The two forms of `GZIP_EXTRA` (47_gzip_wrapper R318): the 2-byte length that comes first, then one payload byte a firing. -/
inductive ExtraPart where
  | lengthField (xlen : BitVec 16)
  | payload (b : Byte)
  deriving DecidableEq, Repr

/-- The distance part of a `LENnnn` element (44_deflate_symbols R204): the distance symbol and the value of its extra
bits, as many as the symbol has (R101; `Instr.wellFormed` says so). The rows `DISTnn` are the same parts as elements of
their own (log 13). -/
structure DistPart where
  sym : BitVec 5
  extra : BitVec 13
  deriving DecidableEq, Repr

/-- The stream elements of 30_encoding R104. A Huffman-coded element carries its symbol and its extra bits, not its
code, which the block's length array determines (41_huffman R143). -/
inductive Instr where
  /-- `ZLIB_HDR` (R301): both header bytes. -/
  | zlibHdr (cmf : Byte) (flg : Byte)
  /-- `ZLIB_TRAILER` (R303): the 4 bytes read big-endian. -/
  | zlibTrailer (adler : BitVec 32)
  /-- `GZIP_HDR` (R316): the ten fixed header bytes. -/
  | gzipHdr (id1 : Byte) (id2 : Byte) (cm : Byte) (flg : Byte) (mtime : BitVec 32) (xfl : Byte) (os : Byte)
  /-- `GZIP_EXTRA` (R318): the length field or one payload byte. -/
  | gzipExtra (part : ExtraPart)
  /-- `GZIP_NAME` (R319): one byte of the name. -/
  | gzipName (b : Byte)
  /-- `GZIP_COMMENT` (R320): one byte of the comment. -/
  | gzipComment (b : Byte)
  /-- `GZIP_HCRC` (R321): the header CRC16. -/
  | gzipHcrc (v : BitVec 16)
  /-- `GZIP_TRAILER` (R323): both trailer words, little-endian. -/
  | gzipTrailer (crc : BitVec 32) (isize : BitVec 32)
  /-- `BLK_STORED` (R176): `BFINAL`. -/
  | blkStored (final : Bool)
  /-- `BLK_FIXED` (R176): `BFINAL`. -/
  | blkFixed (final : Bool)
  /-- `BLK_DYNAMIC` (R176): `BFINAL`. -/
  | blkDynamic (final : Bool)
  /-- `BLK_RESERVED` (R176): `BFINAL`. -/
  | blkReserved (final : Bool)
  /-- `STORED_HDR` (R178): `LEN`, `NLEN`. -/
  | storedHdr (len : BitVec 16) (nlen : BitVec 16)
  /-- `STORED_BYTE` (R179): the raw byte. -/
  | storedByte (b : Byte)
  /-- `DYN_HDR` (R182): the three fields without their offsets. -/
  | dynHdr (hlit : BitVec 5) (hdist : BitVec 5) (hclen : BitVec 4)
  /-- `DYN_CLLEN` (R183): the 3-bit length. -/
  | dynCllen (v : BitVec 3)
  /-- `CL_LEN0` (R185). -/
  | clLen0
  /-- `CL_LEN1` (R185). -/
  | clLen1
  /-- `CL_LEN2` (R185). -/
  | clLen2
  /-- `CL_LEN3` (R185). -/
  | clLen3
  /-- `CL_LEN4` (R185). -/
  | clLen4
  /-- `CL_LEN5` (R185). -/
  | clLen5
  /-- `CL_LEN6` (R185). -/
  | clLen6
  /-- `CL_LEN7` (R185). -/
  | clLen7
  /-- `CL_LEN8` (R185). -/
  | clLen8
  /-- `CL_LEN9` (R185). -/
  | clLen9
  /-- `CL_LEN10` (R185). -/
  | clLen10
  /-- `CL_LEN11` (R185). -/
  | clLen11
  /-- `CL_LEN12` (R185). -/
  | clLen12
  /-- `CL_LEN13` (R185). -/
  | clLen13
  /-- `CL_LEN14` (R185). -/
  | clLen14
  /-- `CL_LEN15` (R185). -/
  | clLen15
  /-- `CL_REP16` (R186): 2 extra bits. -/
  | clRep16 (e : BitVec 2)
  /-- `CL_ZREP17` (R187): 3 extra bits. -/
  | clZrep17 (e : BitVec 3)
  /-- `CL_ZREP18` (R188): 7 extra bits. -/
  | clZrep18 (e : BitVec 7)
  /-- `LIT` (R202): the literal. -/
  | lit (b : Byte)
  /-- `EOB` (R203). -/
  | eob
  /-- `LEN257` (R210). -/
  | len257 (d : DistPart)
  /-- `LEN258` (R211). -/
  | len258 (d : DistPart)
  /-- `LEN259` (R212). -/
  | len259 (d : DistPart)
  /-- `LEN260` (R213). -/
  | len260 (d : DistPart)
  /-- `LEN261` (R214). -/
  | len261 (d : DistPart)
  /-- `LEN262` (R215). -/
  | len262 (d : DistPart)
  /-- `LEN263` (R216). -/
  | len263 (d : DistPart)
  /-- `LEN264` (R217). -/
  | len264 (d : DistPart)
  /-- `LEN265` (R218). -/
  | len265 (e : BitVec 1) (d : DistPart)
  /-- `LEN266` (R219). -/
  | len266 (e : BitVec 1) (d : DistPart)
  /-- `LEN267` (R220). -/
  | len267 (e : BitVec 1) (d : DistPart)
  /-- `LEN268` (R221). -/
  | len268 (e : BitVec 1) (d : DistPart)
  /-- `LEN269` (R222). -/
  | len269 (e : BitVec 2) (d : DistPart)
  /-- `LEN270` (R223). -/
  | len270 (e : BitVec 2) (d : DistPart)
  /-- `LEN271` (R224). -/
  | len271 (e : BitVec 2) (d : DistPart)
  /-- `LEN272` (R225). -/
  | len272 (e : BitVec 2) (d : DistPart)
  /-- `LEN273` (R226). -/
  | len273 (e : BitVec 3) (d : DistPart)
  /-- `LEN274` (R227). -/
  | len274 (e : BitVec 3) (d : DistPart)
  /-- `LEN275` (R228). -/
  | len275 (e : BitVec 3) (d : DistPart)
  /-- `LEN276` (R229). -/
  | len276 (e : BitVec 3) (d : DistPart)
  /-- `LEN277` (R230). -/
  | len277 (e : BitVec 4) (d : DistPart)
  /-- `LEN278` (R231). -/
  | len278 (e : BitVec 4) (d : DistPart)
  /-- `LEN279` (R232). -/
  | len279 (e : BitVec 4) (d : DistPart)
  /-- `LEN280` (R233). -/
  | len280 (e : BitVec 4) (d : DistPart)
  /-- `LEN281` (R234). -/
  | len281 (e : BitVec 5) (d : DistPart)
  /-- `LEN282` (R235). -/
  | len282 (e : BitVec 5) (d : DistPart)
  /-- `LEN283` (R236). -/
  | len283 (e : BitVec 5) (d : DistPart)
  /-- `LEN284` (R237). -/
  | len284 (e : BitVec 5) (d : DistPart)
  /-- `LEN285` (R238). -/
  | len285 (d : DistPart)
  /-- `LL286` (R206). -/
  | ll286
  /-- `LL287` (R206). -/
  | ll287
  /-- `DIST0` (R240). -/
  | dist0
  /-- `DIST1` (R241). -/
  | dist1
  /-- `DIST2` (R242). -/
  | dist2
  /-- `DIST3` (R243). -/
  | dist3
  /-- `DIST4` (R244). -/
  | dist4 (e : BitVec 1)
  /-- `DIST5` (R245). -/
  | dist5 (e : BitVec 1)
  /-- `DIST6` (R246). -/
  | dist6 (e : BitVec 2)
  /-- `DIST7` (R247). -/
  | dist7 (e : BitVec 2)
  /-- `DIST8` (R248). -/
  | dist8 (e : BitVec 3)
  /-- `DIST9` (R249). -/
  | dist9 (e : BitVec 3)
  /-- `DIST10` (R250). -/
  | dist10 (e : BitVec 4)
  /-- `DIST11` (R251). -/
  | dist11 (e : BitVec 4)
  /-- `DIST12` (R252). -/
  | dist12 (e : BitVec 5)
  /-- `DIST13` (R253). -/
  | dist13 (e : BitVec 5)
  /-- `DIST14` (R254). -/
  | dist14 (e : BitVec 6)
  /-- `DIST15` (R255). -/
  | dist15 (e : BitVec 6)
  /-- `DIST16` (R256). -/
  | dist16 (e : BitVec 7)
  /-- `DIST17` (R257). -/
  | dist17 (e : BitVec 7)
  /-- `DIST18` (R258). -/
  | dist18 (e : BitVec 8)
  /-- `DIST19` (R259). -/
  | dist19 (e : BitVec 8)
  /-- `DIST20` (R260). -/
  | dist20 (e : BitVec 9)
  /-- `DIST21` (R261). -/
  | dist21 (e : BitVec 9)
  /-- `DIST22` (R262). -/
  | dist22 (e : BitVec 10)
  /-- `DIST23` (R263). -/
  | dist23 (e : BitVec 10)
  /-- `DIST24` (R264). -/
  | dist24 (e : BitVec 11)
  /-- `DIST25` (R265). -/
  | dist25 (e : BitVec 11)
  /-- `DIST26` (R266). -/
  | dist26 (e : BitVec 12)
  /-- `DIST27` (R267). -/
  | dist27 (e : BitVec 12)
  /-- `DIST28` (R268). -/
  | dist28 (e : BitVec 13)
  /-- `DIST29` (R269). -/
  | dist29 (e : BitVec 13)
  /-- `DIST30` (R207). -/
  | dist30
  /-- `DIST31` (R207). -/
  | dist31
  deriving DecidableEq, Repr

end Sys2Proof
end

