-- ==== Sys2Proof/Machine/BitReader.lean ====
section
/-! DEFINITION. The bit_reader primitives (40_bit_reader R120 to R128) over a cursor: the bit position and the bits that
have been delivered from there on. -/

namespace Sys2Proof.Machine

/-- The bits of a byte in stream order, bit 0 first (R14, R66). -/
def bitsOfByte (b : Byte) : List Bool := (List.range 8).map b.getLsbD

/-- The bits of a byte sequence in stream order (R61). -/
def bitsOfBytes (bs : List Byte) : List Bool := bs.flatMap bitsOfByte

/-- The number whose bit 0 is the first bit of the list (R67). -/
def lsbValue : List Bool → Nat
  | [] => 0
  | b :: bs => b.toNat + 2 * lsbValue bs

/-- A place in the input: `pos` bits lie before it, `rest` are the delivered bits from it on (R22, R61). -/
structure Cursor where
  pos : Nat
  rest : List Bool
  deriving DecidableEq, Repr

/-- Why no element is read here. -/
inductive Reject where
  /-- Fewer bits have been delivered than the element needs: the rule holds, or raises `EOS` when `IN_EOS` is set (R121). -/
  | short
  /-- A Huffman walk met no code within the maximum length (41_huffman R145). -/
  | invalidCode
  /-- `PHASE` selects no stream element: IDLE, COPY, DONE, ERROR (10_state R24). -/
  | noElement
  deriving DecidableEq, Repr

/-- The outcome of a read: a value and the cursor after it, or the reason there is none. -/
inductive Read (α : Type) where
  | ok (a : α) (c : Cursor)
  | reject (r : Reject)
  deriving DecidableEq, Repr

/-- Reads in sequence: the first rejection wins (00_scope R16). -/
def Read.bind {α β : Type} (r : Read α) (f : α → Cursor → Read β) : Read β :=
  match r with
  | .ok a c => f a c
  | .reject e => .reject e

/-- `readBits(n)` (R121): the first bit is bit 0; `readBits(0)` is 0 and is never short (decision D15). -/
def readBits (n : Nat) (c : Cursor) : Read (BitVec n) :=
  if n ≤ c.rest.length then
    .ok (BitVec.ofNat n (lsbValue (c.rest.take n))) ⟨c.pos + n, c.rest.drop n⟩
  else .reject .short

/-- `readBit()` is `readBits(1)` (R122). -/
def readBit (c : Cursor) : Read (BitVec 1) := readBits 1 c

/-- The bit position rounded up to a multiple of 8 (R123). -/
def alignUp (pos : Nat) : Nat := (pos + 7) / 8 * 8

/-- `discardBits()` (R123): the skipped bits are not examined. -/
def discardBits (c : Cursor) : Cursor := ⟨alignUp c.pos, c.rest.drop (alignUp c.pos - c.pos)⟩

/-- `u8()` (R124). -/
def u8 (c : Cursor) : Read Byte := readBits 8 (discardBits c)

/-- `u16LE()` (R124). -/
def u16LE (c : Cursor) : Read (BitVec 16) := readBits 16 (discardBits c)

/-- `u32LE()` (R124). -/
def u32LE (c : Cursor) : Read (BitVec 32) := readBits 32 (discardBits c)

/-- `u32BE()` (R124): the first byte is the most significant. -/
def u32BE (c : Cursor) : Read (BitVec 32) :=
  (readBits 8 (discardBits c)).bind fun b0 c0 =>
  (readBits 8 c0).bind fun b1 c1 =>
  (readBits 8 c1).bind fun b2 c2 =>
  (readBits 8 c2).bind fun b3 c3 =>
  .ok (b0 ++ b1 ++ b2 ++ b3) c3

/-- The bits of a value, least significant first, as `readBits` takes them. -/
def lsbBits {n : Nat} (v : BitVec n) : List Bool := (List.range n).map v.getLsbD

/-- The 0 to 7 zero bits from position `pos` to the next byte boundary (`PAD`, R114). -/
def padBits (pos : Nat) : List Bool := List.replicate (alignUp pos - pos) false

/-- Bits packed into bytes, LSB first, the last byte filled with zeros (R110). `fuel` bounds the number of bytes. -/
def packBits : Nat → List Bool → List Byte
  | 0, _ => []
  | fuel + 1, bs => if bs.isEmpty then [] else BitVec.ofNat 8 (lsbValue (bs.take 8)) :: packBits fuel (bs.drop 8)

end Sys2Proof.Machine
end

