-- ==== Sys2Proof/Machine/Huffman.lean ====
section
/-! DEFINITION. The canonical_huffman_decoder (41_huffman R140 to R147). A table is its length list `L` and its maximum
length; everything else is a function of the two (R140, 10_state R55). No set of lengths is refused (R146). -/

namespace Sys2Proof.Machine

/-- `bl_count[len]`; `bl_count[0]` is taken as 0 (R141). -/
def blCount (L : List Nat) (len : Nat) : Nat := if len = 0 then 0 else L.count len

/-- `first[len]`, not truncated (R142, the loop form with `bl_count[0] = 0`). -/
def firstCode (L : List Nat) : Nat → Nat
  | 0 => 0
  | n + 1 => (firstCode L n + blCount L n) * 2

/-- The symbols of length `len` in ascending order (R143). -/
def symbolsOfLength (L : List Nat) (len : Nat) : List Nat :=
  (List.range L.length).zip L |>.filterMap fun p => if p.2 = len then some p.1 else none

/-- `SYMS`: the symbols with a nonzero length, by length, then by symbol (R144). -/
def symsFrom (L : List Nat) : Nat → List Nat
  | 0 => []
  | n + 1 => symsFrom L n ++ symbolsOfLength L (n + 1)

/-- `offset[len]`: how many symbols have a nonzero length below `len` (R144). -/
def symOffset (L : List Nat) : Nat → Nat
  | 0 => 0
  | n + 1 => symOffset L n + blCount L n

/-- The walk of `decodeSym` from a code of `len` bits with `fuel` bits still allowed (R145). The last case of the inner
match cannot arise: the index is below the number of symbols (log 18). -/
def huffmanWalk (L : List Nat) (maxBits : Nat) : Nat → Nat → Nat → Cursor → Read Nat
  | 0, _, _, _ => .reject .invalidCode
  | fuel + 1, len, code, c =>
    (readBit c).bind fun b c' =>
      let len' := len + 1
      let code' := code * 2 + b.toNat
      let f := firstCode L len'
      if f ≤ code' ∧ code' < f + blCount L len' then
        match (symsFrom L maxBits)[symOffset L len' + (code' - f)]? with
        | some s => .ok s c'
        | none => .reject .invalidCode
      else huffmanWalk L maxBits fuel len' code' c'

/-- `decodeSym(T)` (R145). -/
def decodeSym (L : List Nat) (maxBits : Nat) (c : Cursor) : Read Nat := huffmanWalk L maxBits maxBits 0 0 c

/-- The code of symbol `s`: its length and its value (R142, R143); none for length 0, which means no code (R141). -/
def codeOf (L : List Nat) (s : Nat) : Option (Nat × Nat) :=
  let len := L.getD s 0
  if len = 0 then none else some (len, firstCode L len + (L.take s).count len)

/-- `code` in `len` bits, most significant bit first (R68). -/
def msbBits (len code : Nat) : List Bool := (List.range len).map fun i => code.testBit (len - 1 - i)

/-- The bits that stand for symbol `s`; none where it has no code, or a code too large for its length, which no walk can
meet (R146). -/
def codeBits (L : List Nat) (s : Nat) : Option (List Bool) :=
  match codeOf L s with
  | none => none
  | some (len, code) => if code < 2 ^ len then some (msbBits len code) else none

/-- The Kraft sum of the lengths, in units of `2^-maxBits` (R146). -/
def kraftSum (L : List Nat) (maxBits : Nat) : Nat :=
  (L.map fun len => if len = 0 then 0 else 2 ^ (maxBits - len)).sum

/-- Every length within the maximum, and the set not over-subscribed (R140, R146 b). -/
def notOversubscribed (L : List Nat) (maxBits : Nat) : Bool :=
  (L.all fun len => decide (len ≤ maxBits)) && decide (kraftSum L maxBits ≤ 2 ^ maxBits)

end Sys2Proof.Machine
end

