-- ==== Sys2Proof/Machine/Operands.lean ====
section
/-! DEFINITION. The constant tables of the operands (30_encoding R94, R99 to R103) and the two readers of a length array. -/

namespace Sys2Proof.Machine

/-- The order in which the code-length lengths are sent (R94, R183). -/
def clOrder : List Nat := [16, 17, 18, 0, 8, 7, 9, 6, 10, 5, 11, 4, 12, 3, 13, 2, 14, 1, 15]

/-- `LEN_BASE`, index `c - 257` (R100). -/
def lenBase : List Nat :=
  [3, 4, 5, 6, 7, 8, 9, 10, 11, 13, 15, 17, 19, 23, 27, 31, 35, 43, 51, 59, 67, 83, 99, 115, 131, 163, 195, 227, 258]

/-- `LEN_EXTRA`, index `c - 257` (R100). -/
def lenExtra : List Nat :=
  [0, 0, 0, 0, 0, 0, 0, 0, 1, 1, 1, 1, 2, 2, 2, 2, 3, 3, 3, 3, 4, 4, 4, 4, 5, 5, 5, 5, 0]

/-- `DIST_BASE`, index `d` (R101). -/
def distBase : List Nat :=
  [1, 2, 3, 4, 5, 7, 9, 13, 17, 25, 33, 49, 65, 97, 129, 193, 257, 385, 513, 769, 1025, 1537, 2049, 3073, 4097,
   6145, 8193, 12289, 16385, 24577]

/-- `DIST_EXTRA`, index `d` (R101). -/
def distExtra : List Nat :=
  [0, 0, 0, 0, 1, 1, 2, 2, 3, 3, 4, 4, 5, 5, 6, 6, 7, 7, 8, 8, 9, 9, 10, 10, 11, 11, 12, 12, 13, 13]

/-- How many extra bits follow the distance symbol `d`: none after 30 and 31, which fault (R207). -/
def distExtraBits (d : Nat) : Nat := distExtra.getD d 0

/-- The fixed literal/length code length of symbol `s` (R103, R176). -/
def fixedLlLen (s : Nat) : BitVec 4 :=
  if s < 144 then 8 else if s < 256 then 9 else if s < 280 then 7 else 8

/-- The fixed distance code length (R103, R176). -/
def fixedDLen (_ : Nat) : BitVec 4 := 5

/-- The length array whose entry `i` is `f i`. -/
def vecOf {α : Type} (n : Nat) (f : Nat → α) : Vector α n :=
  ⟨((List.range n).map f).toArray, by simp⟩

/-- Entry `i` of a length array; the arrays have no entry past their end, and 0 stands for it (log 9). -/
def entry {n w : Nat} (v : Vector (BitVec w) n) (i : Nat) : BitVec w := v.toList.getD i 0

/-- A length array as the list of lengths a Huffman table is made of (41_huffman R140). -/
def lengthsOf {n w : Nat} (v : Vector (BitVec w) n) : List Nat := v.toList.map BitVec.toNat

end Sys2Proof.Machine
end

