-- ==== Sys2Proof/WellFormed.lean ====
section
/-! DEFINITION. Which terms of `Instr` are elements: the distance part of a `LENnnn` element holds no more extra bits
than its symbol has (30_encoding R101). Every other operand has exactly the width of its field. -/

namespace Sys2Proof

/-- The extra bits fit the symbol's width (R101; none for 30 and 31, R207). -/
def DistPart.wellFormed (d : DistPart) : Bool := decide (d.extra.toNat < 2 ^ Machine.distExtraBits d.sym.toNat)

/-- The element is one the formats have. -/
def Instr.wellFormed : Instr → Bool
  | .zlibHdr _ _ => true
  | .zlibTrailer _ => true
  | .gzipHdr _ _ _ _ _ _ _ => true
  | .gzipExtra _ => true
  | .gzipName _ => true
  | .gzipComment _ => true
  | .gzipHcrc _ => true
  | .gzipTrailer _ _ => true
  | .blkStored _ => true
  | .blkFixed _ => true
  | .blkDynamic _ => true
  | .blkReserved _ => true
  | .storedHdr _ _ => true
  | .storedByte _ => true
  | .dynHdr _ _ _ => true
  | .dynCllen _ => true
  | .clLen0 => true
  | .clLen1 => true
  | .clLen2 => true
  | .clLen3 => true
  | .clLen4 => true
  | .clLen5 => true
  | .clLen6 => true
  | .clLen7 => true
  | .clLen8 => true
  | .clLen9 => true
  | .clLen10 => true
  | .clLen11 => true
  | .clLen12 => true
  | .clLen13 => true
  | .clLen14 => true
  | .clLen15 => true
  | .clRep16 _ => true
  | .clZrep17 _ => true
  | .clZrep18 _ => true
  | .lit _ => true
  | .eob => true
  | .len257 d => d.wellFormed
  | .len258 d => d.wellFormed
  | .len259 d => d.wellFormed
  | .len260 d => d.wellFormed
  | .len261 d => d.wellFormed
  | .len262 d => d.wellFormed
  | .len263 d => d.wellFormed
  | .len264 d => d.wellFormed
  | .len265 _ d => d.wellFormed
  | .len266 _ d => d.wellFormed
  | .len267 _ d => d.wellFormed
  | .len268 _ d => d.wellFormed
  | .len269 _ d => d.wellFormed
  | .len270 _ d => d.wellFormed
  | .len271 _ d => d.wellFormed
  | .len272 _ d => d.wellFormed
  | .len273 _ d => d.wellFormed
  | .len274 _ d => d.wellFormed
  | .len275 _ d => d.wellFormed
  | .len276 _ d => d.wellFormed
  | .len277 _ d => d.wellFormed
  | .len278 _ d => d.wellFormed
  | .len279 _ d => d.wellFormed
  | .len280 _ d => d.wellFormed
  | .len281 _ d => d.wellFormed
  | .len282 _ d => d.wellFormed
  | .len283 _ d => d.wellFormed
  | .len284 _ d => d.wellFormed
  | .len285 d => d.wellFormed
  | .ll286 => true
  | .ll287 => true
  | .dist0 => true
  | .dist1 => true
  | .dist2 => true
  | .dist3 => true
  | .dist4 _ => true
  | .dist5 _ => true
  | .dist6 _ => true
  | .dist7 _ => true
  | .dist8 _ => true
  | .dist9 _ => true
  | .dist10 _ => true
  | .dist11 _ => true
  | .dist12 _ => true
  | .dist13 _ => true
  | .dist14 _ => true
  | .dist15 _ => true
  | .dist16 _ => true
  | .dist17 _ => true
  | .dist18 _ => true
  | .dist19 _ => true
  | .dist20 _ => true
  | .dist21 _ => true
  | .dist22 _ => true
  | .dist23 _ => true
  | .dist24 _ => true
  | .dist25 _ => true
  | .dist26 _ => true
  | .dist27 _ => true
  | .dist28 _ => true
  | .dist29 _ => true
  | .dist30 => true
  | .dist31 => true

/-- The phase that selects the element (R104); none for the `DISTnn` rows, which stand only inside a `LENnnn` element. -/
def Instr.phase : Instr → Option Phase
  | .zlibHdr _ _ => some .zlibHdr
  | .zlibTrailer _ => some .zlibTrailer
  | .gzipHdr _ _ _ _ _ _ _ => some .gzipHdr
  | .gzipExtra _ => some .gzipExtra
  | .gzipName _ => some .gzipName
  | .gzipComment _ => some .gzipComment
  | .gzipHcrc _ => some .gzipHcrc
  | .gzipTrailer _ _ => some .gzipTrailer
  | .blkStored _ => some .blockHdr
  | .blkFixed _ => some .blockHdr
  | .blkDynamic _ => some .blockHdr
  | .blkReserved _ => some .blockHdr
  | .storedHdr _ _ => some .storedHdr
  | .storedByte _ => some .storedCopy
  | .dynHdr _ _ _ => some .dynHdr
  | .dynCllen _ => some .dynCllen
  | .clLen0 => some .dynLens
  | .clLen1 => some .dynLens
  | .clLen2 => some .dynLens
  | .clLen3 => some .dynLens
  | .clLen4 => some .dynLens
  | .clLen5 => some .dynLens
  | .clLen6 => some .dynLens
  | .clLen7 => some .dynLens
  | .clLen8 => some .dynLens
  | .clLen9 => some .dynLens
  | .clLen10 => some .dynLens
  | .clLen11 => some .dynLens
  | .clLen12 => some .dynLens
  | .clLen13 => some .dynLens
  | .clLen14 => some .dynLens
  | .clLen15 => some .dynLens
  | .clRep16 _ => some .dynLens
  | .clZrep17 _ => some .dynLens
  | .clZrep18 _ => some .dynLens
  | .lit _ => some .symbol
  | .eob => some .symbol
  | .len257 _ => some .symbol
  | .len258 _ => some .symbol
  | .len259 _ => some .symbol
  | .len260 _ => some .symbol
  | .len261 _ => some .symbol
  | .len262 _ => some .symbol
  | .len263 _ => some .symbol
  | .len264 _ => some .symbol
  | .len265 _ _ => some .symbol
  | .len266 _ _ => some .symbol
  | .len267 _ _ => some .symbol
  | .len268 _ _ => some .symbol
  | .len269 _ _ => some .symbol
  | .len270 _ _ => some .symbol
  | .len271 _ _ => some .symbol
  | .len272 _ _ => some .symbol
  | .len273 _ _ => some .symbol
  | .len274 _ _ => some .symbol
  | .len275 _ _ => some .symbol
  | .len276 _ _ => some .symbol
  | .len277 _ _ => some .symbol
  | .len278 _ _ => some .symbol
  | .len279 _ _ => some .symbol
  | .len280 _ _ => some .symbol
  | .len281 _ _ => some .symbol
  | .len282 _ _ => some .symbol
  | .len283 _ _ => some .symbol
  | .len284 _ _ => some .symbol
  | .len285 _ => some .symbol
  | .ll286 => some .symbol
  | .ll287 => some .symbol
  | .dist0 => none
  | .dist1 => none
  | .dist2 => none
  | .dist3 => none
  | .dist4 _ => none
  | .dist5 _ => none
  | .dist6 _ => none
  | .dist7 _ => none
  | .dist8 _ => none
  | .dist9 _ => none
  | .dist10 _ => none
  | .dist11 _ => none
  | .dist12 _ => none
  | .dist13 _ => none
  | .dist14 _ => none
  | .dist15 _ => none
  | .dist16 _ => none
  | .dist17 _ => none
  | .dist18 _ => none
  | .dist19 _ => none
  | .dist20 _ => none
  | .dist21 _ => none
  | .dist22 _ => none
  | .dist23 _ => none
  | .dist24 _ => none
  | .dist25 _ => none
  | .dist26 _ => none
  | .dist27 _ => none
  | .dist28 _ => none
  | .dist29 _ => none
  | .dist30 => none
  | .dist31 => none

end Sys2Proof
end

