-- ==== Sys2Proof/Decode.lean ====
section
/-! DEFINITION. Decoding: from a place in the input to the stream element that stands there (30_encoding R90 to R107), and
the encoder. Which element it is depends on `PHASE` (10_state R25) and, for a Huffman-coded element, on the block's tables. -/

namespace Sys2Proof

open Sys2Proof.Machine

/-- What decoding depends on beside the bits: `PHASE`, whether the `FEXTRA` length has been read (R318), whether a
previous code length exists (R186), and the three length arrays (R140). -/
structure DecodeCtx where
  phase : Phase
  xlenValid : Bool
  hasPrevious : Bool
  cl : List Nat
  ll : List Nat
  dist : List Nat
  deriving DecidableEq, Repr

/-- The distance part of a back-reference: the symbol, then its extra bits, none after 30 and 31 (R204, R205, R207). -/
def decodeDist (x : DecodeCtx) (c : Cursor) : Read DistPart :=
  (decodeSym x.dist Config.maxBits c).bind fun d c =>
  (readBits (distExtraBits d) c).bind fun e c =>
  .ok ⟨BitVec.ofNat 5 d, e.setWidth 13⟩ c

/-- A length symbol without extra bits, with its distance part (R204). -/
def thenDist (x : DecodeCtx) (mk : DistPart → Instr) (c : Cursor) : Read Instr :=
  (decodeDist x c).bind fun d c => .ok (mk d) c

/-- A length symbol with `n` extra bits, with its distance part (R204). -/
def thenExtraDist (x : DecodeCtx) (n : Nat) (mk : BitVec n → DistPart → Instr) (c : Cursor) : Read Instr :=
  (readBits n c).bind fun e c => thenDist x (mk e) c

/-- The element of literal/length symbol 256 or above (R201); 286 and 287 end after their code (R206). The table has no
symbol above 287 (10_state R34). -/
def lengthElement (x : DecodeCtx) (sym : Nat) (c : Cursor) : Read Instr :=
  match sym - 256 with
  | 0 => .ok .eob c
  | 1 => thenDist x .len257 c
  | 2 => thenDist x .len258 c
  | 3 => thenDist x .len259 c
  | 4 => thenDist x .len260 c
  | 5 => thenDist x .len261 c
  | 6 => thenDist x .len262 c
  | 7 => thenDist x .len263 c
  | 8 => thenDist x .len264 c
  | 9 => thenExtraDist x 1 .len265 c
  | 10 => thenExtraDist x 1 .len266 c
  | 11 => thenExtraDist x 1 .len267 c
  | 12 => thenExtraDist x 1 .len268 c
  | 13 => thenExtraDist x 2 .len269 c
  | 14 => thenExtraDist x 2 .len270 c
  | 15 => thenExtraDist x 2 .len271 c
  | 16 => thenExtraDist x 2 .len272 c
  | 17 => thenExtraDist x 3 .len273 c
  | 18 => thenExtraDist x 3 .len274 c
  | 19 => thenExtraDist x 3 .len275 c
  | 20 => thenExtraDist x 3 .len276 c
  | 21 => thenExtraDist x 4 .len277 c
  | 22 => thenExtraDist x 4 .len278 c
  | 23 => thenExtraDist x 4 .len279 c
  | 24 => thenExtraDist x 4 .len280 c
  | 25 => thenExtraDist x 5 .len281 c
  | 26 => thenExtraDist x 5 .len282 c
  | 27 => thenExtraDist x 5 .len283 c
  | 28 => thenExtraDist x 5 .len284 c
  | 29 => thenDist x .len285 c
  | 30 => .ok .ll286 c
  | 31 => .ok .ll287 c
  | _ => .reject .invalidCode

/-- `PHASE = SYMBOL`: one literal/length symbol and what follows it (R201). -/
def decodeSymbol (x : DecodeCtx) (c : Cursor) : Read Instr :=
  (decodeSym x.ll Config.maxBits c).bind fun sym c =>
  if sym < 256 then .ok (.lit (BitVec.ofNat 8 sym)) c else lengthElement x sym c

/-- `PHASE = DYN_LENS`: one code-length symbol and its extra bits (R184 to R188). Where symbol 16 comes first its extra
bits are not read, because R186 faults before it; 0 stands for them and `execClRep16` does not look at it (log 10). -/
def decodeCodeLength (x : DecodeCtx) (c : Cursor) : Read Instr :=
  (decodeSym x.cl Config.clMaxBits c).bind fun sym c =>
  match sym with
  | 0 => .ok .clLen0 c
  | 1 => .ok .clLen1 c
  | 2 => .ok .clLen2 c
  | 3 => .ok .clLen3 c
  | 4 => .ok .clLen4 c
  | 5 => .ok .clLen5 c
  | 6 => .ok .clLen6 c
  | 7 => .ok .clLen7 c
  | 8 => .ok .clLen8 c
  | 9 => .ok .clLen9 c
  | 10 => .ok .clLen10 c
  | 11 => .ok .clLen11 c
  | 12 => .ok .clLen12 c
  | 13 => .ok .clLen13 c
  | 14 => .ok .clLen14 c
  | 15 => .ok .clLen15 c
  | 16 => if x.hasPrevious then (readBits 2 c).bind fun e c => .ok (.clRep16 e) c else .ok (.clRep16 0) c
  | 17 => (readBits 3 c).bind fun e c => .ok (.clZrep17 e) c
  | 18 => (readBits 7 c).bind fun e c => .ok (.clZrep18 e) c
  | _ => .reject .invalidCode

/-- `PHASE = BLOCK_HDR` (R92, R176): `v = readBits(3)`, `BFINAL = v[0]`, `BTYPE = v[2:1]`. -/
def decodeBlockHdr (c : Cursor) : Read Instr :=
  (readBits 3 c).bind fun v c =>
  match (v.extractLsb' 1 2).toNat with
  | 0 => .ok (.blkStored (v.getLsbD 0)) c
  | 1 => .ok (.blkFixed (v.getLsbD 0)) c
  | 2 => .ok (.blkDynamic (v.getLsbD 0)) c
  | _ => .ok (.blkReserved (v.getLsbD 0)) c

/-- `PHASE = GZIP_HDR`: the ten fixed bytes (R98, R316). -/
def decodeGzipHdr (c : Cursor) : Read Instr :=
  (u8 c).bind fun id1 c =>
  (u8 c).bind fun id2 c =>
  (u8 c).bind fun cm c =>
  (u8 c).bind fun flg c =>
  (u32LE c).bind fun mtime c =>
  (u8 c).bind fun xfl c =>
  (u8 c).bind fun os c =>
  .ok (.gzipHdr id1 id2 cm flg mtime xfl os) c

/-- The element at a place in the input, total on any bits: an element and the place after it, or the reason there is
none (R104). -/
def decode (x : DecodeCtx) (c : Cursor) : Read Instr :=
  match x.phase with
  | .idle => .reject .noElement
  | .zlibHdr => (u8 c).bind fun cmf c => (u8 c).bind fun flg c => .ok (.zlibHdr cmf flg) c
  | .gzipHdr => decodeGzipHdr c
  | .gzipExtra =>
    if x.xlenValid then (u8 c).bind fun b c => .ok (.gzipExtra (.payload b)) c
    else (u16LE c).bind fun n c => .ok (.gzipExtra (.lengthField n)) c
  | .gzipName => (u8 c).bind fun b c => .ok (.gzipName b) c
  | .gzipComment => (u8 c).bind fun b c => .ok (.gzipComment b) c
  | .gzipHcrc => (u16LE c).bind fun v c => .ok (.gzipHcrc v) c
  | .blockHdr => decodeBlockHdr c
  | .storedHdr => (u16LE (discardBits c)).bind fun len c => (u16LE c).bind fun nlen c => .ok (.storedHdr len nlen) c
  | .storedCopy => (readBits 8 c).bind fun b c => .ok (.storedByte b) c
  | .dynHdr =>
    (readBits 5 c).bind fun l c => (readBits 5 c).bind fun d c => (readBits 4 c).bind fun n c => .ok (.dynHdr l d n) c
  | .dynCllen => (readBits 3 c).bind fun v c => .ok (.dynCllen v) c
  | .dynLens => decodeCodeLength x c
  | .symbol => decodeSymbol x c
  | .copy => .reject .noElement
  | .zlibTrailer => (u32BE c).bind fun v c => .ok (.zlibTrailer v) c
  | .gzipTrailer => (u32LE c).bind fun crc c => (u32LE c).bind fun n c => .ok (.gzipTrailer crc n) c
  | .done => .reject .noElement
  | .error => .reject .noElement

/-- The distance part as the element `DISTnn` of its row; the extra bits past the symbol's width are dropped. -/
def DistPart.toInstr (d : DistPart) : Instr :=
  match d.sym.toNat with
  | 0 => .dist0
  | 1 => .dist1
  | 2 => .dist2
  | 3 => .dist3
  | 4 => .dist4 (d.extra.setWidth 1)
  | 5 => .dist5 (d.extra.setWidth 1)
  | 6 => .dist6 (d.extra.setWidth 2)
  | 7 => .dist7 (d.extra.setWidth 2)
  | 8 => .dist8 (d.extra.setWidth 3)
  | 9 => .dist9 (d.extra.setWidth 3)
  | 10 => .dist10 (d.extra.setWidth 4)
  | 11 => .dist11 (d.extra.setWidth 4)
  | 12 => .dist12 (d.extra.setWidth 5)
  | 13 => .dist13 (d.extra.setWidth 5)
  | 14 => .dist14 (d.extra.setWidth 6)
  | 15 => .dist15 (d.extra.setWidth 6)
  | 16 => .dist16 (d.extra.setWidth 7)
  | 17 => .dist17 (d.extra.setWidth 7)
  | 18 => .dist18 (d.extra.setWidth 8)
  | 19 => .dist19 (d.extra.setWidth 8)
  | 20 => .dist20 (d.extra.setWidth 9)
  | 21 => .dist21 (d.extra.setWidth 9)
  | 22 => .dist22 (d.extra.setWidth 10)
  | 23 => .dist23 (d.extra.setWidth 10)
  | 24 => .dist24 (d.extra.setWidth 11)
  | 25 => .dist25 (d.extra.setWidth 11)
  | 26 => .dist26 (d.extra.setWidth 12)
  | 27 => .dist27 (d.extra.setWidth 12)
  | 28 => .dist28 (d.extra.setWidth 13)
  | 29 => .dist29 (d.extra.setWidth 13)
  | 30 => .dist30
  | _ => .dist31

/-- A `DISTnn` element on its own, where one is expected (R205). -/
def decodeDistElement (x : DecodeCtx) (c : Cursor) : Read Instr :=
  (decodeDist x c).bind fun d c => .ok d.toInstr c

/-! The encoder: the bits of an element in stream order, as 30_encoding gives them. Pad bits are written 0 (R110, log 14).
None where the element cannot stand in that context: its phase is another, or its symbol has no code. -/

/-- A code and what follows it. -/
def codeThen (L : List Nat) (s : Nat) (tail : List Bool) : Option (List Bool) := (codeBits L s).map (· ++ tail)

/-- A distance part: the code of the symbol, then its extra bits, LSB first (R101). -/
def encodeDist (x : DecodeCtx) (d : DistPart) : Option (List Bool) :=
  codeThen x.dist d.sym.toNat ((lsbBits d.extra).take (distExtraBits d.sym.toNat))

/-- A length symbol, its extra bits, then the distance part (R204). -/
def encodeMatch (x : DecodeCtx) (s : Nat) (extra : List Bool) (d : DistPart) : Option (List Bool) :=
  (encodeDist x d).bind fun ds => codeThen x.ll s (extra ++ ds)

/-- A block header (R92). -/
def blockHdrBits (final : Bool) (btype : BitVec 2) : List Bool := final :: lsbBits btype

/-- The bits of an element in its own phase, from bit position `pos` on. -/
def encodeBits (x : DecodeCtx) (pos : Nat) : Instr → Option (List Bool)
  | .zlibHdr cmf flg => some (padBits pos ++ lsbBits cmf ++ lsbBits flg)
  | .zlibTrailer adler => some (padBits pos ++ lsbBits (adler.extractLsb' 24 8) ++ lsbBits (adler.extractLsb' 16 8)
      ++ lsbBits (adler.extractLsb' 8 8) ++ lsbBits (adler.extractLsb' 0 8))
  | .gzipHdr id1 id2 cm flg mtime xfl os => some (padBits pos ++ lsbBits id1 ++ lsbBits id2 ++ lsbBits cm ++ lsbBits flg ++ lsbBits mtime
      ++ lsbBits xfl ++ lsbBits os)
  | .gzipExtra (.lengthField n) => if x.xlenValid then none else some (padBits pos ++ lsbBits n)
  | .gzipExtra (.payload b) => if x.xlenValid then some (padBits pos ++ lsbBits b) else none
  | .gzipName b => some (padBits pos ++ lsbBits b)
  | .gzipComment b => some (padBits pos ++ lsbBits b)
  | .gzipHcrc v => some (padBits pos ++ lsbBits v)
  | .gzipTrailer crc isize => some (padBits pos ++ lsbBits crc ++ lsbBits isize)
  | .blkStored final => some (blockHdrBits final 0)
  | .blkFixed final => some (blockHdrBits final 1)
  | .blkDynamic final => some (blockHdrBits final 2)
  | .blkReserved final => some (blockHdrBits final 3)
  | .storedHdr len nlen => some (padBits pos ++ lsbBits len ++ lsbBits nlen)
  | .storedByte b => some (lsbBits b)
  | .dynHdr hlit hdist hclen => some (lsbBits hlit ++ lsbBits hdist ++ lsbBits hclen)
  | .dynCllen v => some (lsbBits v)
  | .clLen0 => codeThen x.cl 0 []
  | .clLen1 => codeThen x.cl 1 []
  | .clLen2 => codeThen x.cl 2 []
  | .clLen3 => codeThen x.cl 3 []
  | .clLen4 => codeThen x.cl 4 []
  | .clLen5 => codeThen x.cl 5 []
  | .clLen6 => codeThen x.cl 6 []
  | .clLen7 => codeThen x.cl 7 []
  | .clLen8 => codeThen x.cl 8 []
  | .clLen9 => codeThen x.cl 9 []
  | .clLen10 => codeThen x.cl 10 []
  | .clLen11 => codeThen x.cl 11 []
  | .clLen12 => codeThen x.cl 12 []
  | .clLen13 => codeThen x.cl 13 []
  | .clLen14 => codeThen x.cl 14 []
  | .clLen15 => codeThen x.cl 15 []
  | .clRep16 e => if x.hasPrevious then codeThen x.cl 16 (lsbBits e) else none
  | .clZrep17 e => codeThen x.cl 17 (lsbBits e)
  | .clZrep18 e => codeThen x.cl 18 (lsbBits e)
  | .lit b => codeThen x.ll b.toNat []
  | .eob => codeThen x.ll 256 []
  | .len257 d => encodeMatch x 257 [] d
  | .len258 d => encodeMatch x 258 [] d
  | .len259 d => encodeMatch x 259 [] d
  | .len260 d => encodeMatch x 260 [] d
  | .len261 d => encodeMatch x 261 [] d
  | .len262 d => encodeMatch x 262 [] d
  | .len263 d => encodeMatch x 263 [] d
  | .len264 d => encodeMatch x 264 [] d
  | .len265 e d => encodeMatch x 265 (lsbBits e) d
  | .len266 e d => encodeMatch x 266 (lsbBits e) d
  | .len267 e d => encodeMatch x 267 (lsbBits e) d
  | .len268 e d => encodeMatch x 268 (lsbBits e) d
  | .len269 e d => encodeMatch x 269 (lsbBits e) d
  | .len270 e d => encodeMatch x 270 (lsbBits e) d
  | .len271 e d => encodeMatch x 271 (lsbBits e) d
  | .len272 e d => encodeMatch x 272 (lsbBits e) d
  | .len273 e d => encodeMatch x 273 (lsbBits e) d
  | .len274 e d => encodeMatch x 274 (lsbBits e) d
  | .len275 e d => encodeMatch x 275 (lsbBits e) d
  | .len276 e d => encodeMatch x 276 (lsbBits e) d
  | .len277 e d => encodeMatch x 277 (lsbBits e) d
  | .len278 e d => encodeMatch x 278 (lsbBits e) d
  | .len279 e d => encodeMatch x 279 (lsbBits e) d
  | .len280 e d => encodeMatch x 280 (lsbBits e) d
  | .len281 e d => encodeMatch x 281 (lsbBits e) d
  | .len282 e d => encodeMatch x 282 (lsbBits e) d
  | .len283 e d => encodeMatch x 283 (lsbBits e) d
  | .len284 e d => encodeMatch x 284 (lsbBits e) d
  | .len285 d => encodeMatch x 285 [] d
  | .ll286 => codeThen x.ll 286 []
  | .ll287 => codeThen x.ll 287 []
  | .dist0 => codeThen x.dist 0 []
  | .dist1 => codeThen x.dist 1 []
  | .dist2 => codeThen x.dist 2 []
  | .dist3 => codeThen x.dist 3 []
  | .dist4 e => codeThen x.dist 4 (lsbBits e)
  | .dist5 e => codeThen x.dist 5 (lsbBits e)
  | .dist6 e => codeThen x.dist 6 (lsbBits e)
  | .dist7 e => codeThen x.dist 7 (lsbBits e)
  | .dist8 e => codeThen x.dist 8 (lsbBits e)
  | .dist9 e => codeThen x.dist 9 (lsbBits e)
  | .dist10 e => codeThen x.dist 10 (lsbBits e)
  | .dist11 e => codeThen x.dist 11 (lsbBits e)
  | .dist12 e => codeThen x.dist 12 (lsbBits e)
  | .dist13 e => codeThen x.dist 13 (lsbBits e)
  | .dist14 e => codeThen x.dist 14 (lsbBits e)
  | .dist15 e => codeThen x.dist 15 (lsbBits e)
  | .dist16 e => codeThen x.dist 16 (lsbBits e)
  | .dist17 e => codeThen x.dist 17 (lsbBits e)
  | .dist18 e => codeThen x.dist 18 (lsbBits e)
  | .dist19 e => codeThen x.dist 19 (lsbBits e)
  | .dist20 e => codeThen x.dist 20 (lsbBits e)
  | .dist21 e => codeThen x.dist 21 (lsbBits e)
  | .dist22 e => codeThen x.dist 22 (lsbBits e)
  | .dist23 e => codeThen x.dist 23 (lsbBits e)
  | .dist24 e => codeThen x.dist 24 (lsbBits e)
  | .dist25 e => codeThen x.dist 25 (lsbBits e)
  | .dist26 e => codeThen x.dist 26 (lsbBits e)
  | .dist27 e => codeThen x.dist 27 (lsbBits e)
  | .dist28 e => codeThen x.dist 28 (lsbBits e)
  | .dist29 e => codeThen x.dist 29 (lsbBits e)
  | .dist30 => codeThen x.dist 30 []
  | .dist31 => codeThen x.dist 31 []

/-- The words of a well-formed element: its bits from bit position `pos` on, where its phase is the context's. A `DISTnn`
row has no phase of its own and is encoded wherever its symbol has a code. -/
def encode (x : DecodeCtx) (pos : Nat) (i : Instr) : Option (List Bool) :=
  match i.phase with
  | some p => if p = x.phase then encodeBits x pos i else none
  | none => encodeBits x pos i

/-! The opcode table's numbering of a row's bits (log 5). -/

/-- Byte `k` of a number, byte 0 least significant. -/
def byteOf (w k : Nat) : Byte := BitVec.ofNat 8 (w / 256 ^ k)

/-- The bytes of an instruction that the table numbers `w`, in stream order. Rows of one byte: bit 0 is the first stream bit.
`ZLIB_HDR` (2 bytes): "16-bit value CMF*256+FLG". `GZIP_HDR` (3 bytes, or its 10): "bytes 0, 1, 2 in stream order". -/
def tableBytes (nbits w : Nat) : List Byte :=
  if nbits ≤ 8 then [byteOf w 0]
  else if nbits ≤ 16 then [byteOf w 1, byteOf w 0]
  else [byteOf w 2, byteOf w 1, byteOf w 0] ++ (List.range 7).map fun k => byteOf w (k + 3)

/-- The phase whose element has that width in the table: 3 bits a block header, 16 bits `ZLIB_HDR`, 24 or 80 bits
`GZIP_HDR`; no other row has fixed bits, and none is read at another width. -/
def tablePhase (nbits : Nat) : Option Phase :=
  if nbits ≤ 8 then some .blockHdr
  else if nbits = 16 then some .zlibHdr
  else if nbits = 24 ∨ nbits = 80 then some .gzipHdr
  else none

/-- The instruction's bytes, followed by zeros up to the longest fixed-size element, the ten bytes of `GZIP_HDR`. -/
def tableInput (nbits w : Nat) : List Byte := (tableBytes nbits w ++ List.replicate 10 0).take 10

/-- The element this decoder reads from a table row's word. -/
def decodeTableWord (nbits w : Nat) : Option Instr :=
  match tablePhase nbits with
  | none => none
  | some p =>
    match decode ⟨p, false, false, [], [], []⟩ ⟨0, bitsOfBytes (tableInput nbits w)⟩ with
    | .ok i _ => some i
    | .reject _ => none

end Sys2Proof
end

