-- ==== Sys2Proof/Machine/State.lean ====
section
/-! DEFINITION. The state of the machine as plain data (10_state R20 to R58), with the environment's side that `step` reads
(log 1, log 2), and the window memory. -/

namespace Sys2Proof.Machine

/-- The window RAM `WIN` (R40): the cells that have been written, addresses strictly rising. An unlisted cell has no value:
its contents at reset are unspecified, and no run reads one (R412, log 3). -/
abbrev Memory := List Host.Cell

/-- The step of one agent (00_scope R7; 48_host_control R341 to R349; 70_reset_and_hazards R410). -/
inductive AgentStep where
  /-- The core takes its step. -/
  | core
  /-- The host drives the configuration ports (R340). -/
  | configure (mode : BitVec 2) (windowBits : BitVec 4) (checkCrc : Bool)
  /-- The host issues `start` (R341). -/
  | start
  /-- The host issues `abort` (R345). -/
  | abort
  /-- Hardware reset (R410). -/
  | hardwareReset
  /-- The source offers a byte (R348 a). -/
  | deliver (b : Byte)
  /-- The source signals the end, `in_last` (R348 b). -/
  | endInput
  /-- The sink becomes ready or not ready (R349). -/
  | sink (ready : Bool)
  deriving DecidableEq, Repr

structure State where
  /-- `IN` (R21) -/
  input : List Byte
  /-- `IN_EOS` (R21) -/
  inEos : Bool
  /-- `OUT` (R21) -/
  output : List Byte
  /-- `pc`, the input bit cursor (R22) -/
  pc : Nat
  /-- `PHASE` (R24) -/
  phase : Phase
  /-- `MODE` (R26) -/
  mode : Mode
  /-- `CHECK_CRC` (R26) -/
  checkCrc : Bool
  /-- `WBITS` (R26) -/
  wbits : BitVec 4
  /-- `BFINAL` (R28) -/
  bfinal : Bool
  /-- `BTYPE` (R28) -/
  btype : BitVec 2
  /-- `SLEN` (R29) -/
  slen : BitVec 16
  /-- `HLIT` (R30) -/
  hlit : BitVec 9
  /-- `HDIST` (R30) -/
  hdist : BitVec 6
  /-- `HCLEN` (R30) -/
  hclen : BitVec 5
  /-- `CLIDX` (R31) -/
  clidx : BitVec 5
  /-- `LIDX` (R32) -/
  lidx : BitVec 9
  /-- `LL_LEN[0..287]` (R34) -/
  llLen : Vector (BitVec 4) 288
  /-- `D_LEN[0..31]` (R35) -/
  dLen : Vector (BitVec 4) 32
  /-- `CL_LEN[0..18]` (R36) -/
  clLen : Vector (BitVec 3) 19
  /-- `LENS[0..319]` (R36) -/
  lens : Vector (BitVec 4) 320
  /-- `MLEN` (R38) -/
  mlen : BitVec 9
  /-- `MDIST` (R38) -/
  mdist : BitVec 16
  /-- `WIN` (R40) -/
  win : Memory
  /-- `WPOS` (R41) -/
  wpos : BitVec 15
  /-- `TOTAL` (R42) -/
  total : Nat
  /-- `ADLER_A` (R44) -/
  adlerA : BitVec 16
  /-- `ADLER_B` (R44) -/
  adlerB : BitVec 16
  /-- `CRC` (R45) -/
  crc : BitVec 32
  /-- `GFLG` (R48) -/
  gflg : Byte
  /-- `XLEN` (R48) -/
  xlen : BitVec 16
  /-- `XLEN_VALID` (R48) -/
  xlenValid : Bool
  /-- `ERR_CLASS` (R50) -/
  errClass : ErrClass
  /-- `ERR_SUB` (R50) -/
  errSub : ErrSub
  /-- The port `cfg_mode` (R340, log 1) -/
  cfgMode : BitVec 2
  /-- The port `cfg_window_bits` (R340, log 1) -/
  cfgWindowBits : BitVec 4
  /-- The port `cfg_check_crc` (R340, log 1) -/
  cfgCheckCrc : Bool
  /-- Whether the sink can take a byte (R349, log 1) -/
  sinkReady : Bool
  /-- The coming steps of the agents, first first; when it is empty the core moves (log 1) -/
  pending : List AgentStep
  deriving DecidableEq, Repr

/-- Why the machine stops. -/
inductive Fault where
  /-- Raised by COPY (R163) where the cell it reads was never written. SAFE: the spec leaves such a cell's contents
  unspecified (R40), and no run reaches it (R412; log 3). -/
  | unwrittenCell (addr : BitVec 15)
  deriving DecidableEq, Repr

/-- Why an instruction is not run. -/
inductive Refusal where
  /-- An instruction without a meaning. SAFE. No arm of `exec` answers it. -/
  | notModelled (mnemonic : String)
  deriving DecidableEq, Repr

/-- The state after power-up and reset (R58, R410). The ports, the sink and the schedule have no reset value in the spec:
log 2. -/
def State.reset : State where
  input := []
  inEos := false
  output := []
  pc := 0
  phase := .idle
  mode := .raw
  checkCrc := true
  wbits := 15
  bfinal := false
  btype := 0
  slen := 0
  hlit := 0
  hdist := 0
  hclen := 0
  clidx := 0
  lidx := 0
  llLen := Vector.replicate 288 0
  dLen := Vector.replicate 32 0
  clLen := Vector.replicate 19 0
  lens := Vector.replicate 320 0
  mlen := 0
  mdist := 0
  win := []
  wpos := 0
  total := 0
  adlerA := 1
  adlerB := 0
  crc := 0
  gflg := 0
  xlen := 0
  xlenValid := false
  errClass := .none
  errSub := .none
  cfgMode := 0
  cfgWindowBits := 15
  cfgCheckCrc := true
  sinkReady := true
  pending := []

end Sys2Proof.Machine
end

