-- ==== Sys2Proof/Machine/Flags.lean ====
section
/-! DEFINITION. The accumulators (45_checksums R281 to R288), the error codes (60_exceptions R375, R376) and the status the
host reads (10_state R27). The machine has no condition codes (R33). -/

namespace Sys2Proof.Machine

/-- `adler_step(A, B, b)` (R281): `B` adds the new `A`. -/
def adlerStep (a b : BitVec 16) (x : Byte) : BitVec 16 × BitVec 16 :=
  let a' := (a.toNat + x.toNat) % Config.adlerModulus
  let b' := (b.toNat + a') % Config.adlerModulus
  (BitVec.ofNat 16 a', BitVec.ofNat 16 b')

/-- The repeated shift of `crc_step` (R286). -/
def crcShift : Nat → BitVec 32 → BitVec 32
  | 0, c => c
  | n + 1, c => crcShift n (if c.getLsbD 0 then (c >>> 1) ^^^ Config.crcPolynomial else c >>> 1)

/-- `crc_step(C, b)` (R286), on the finished form of the value (R285). -/
def crcStep (c : BitVec 32) (x : Byte) : BitVec 32 :=
  crcShift 8 ((c ^^^ 0xFFFFFFFF) ^^^ x.setWidth 32) ^^^ 0xFFFFFFFF

/-- The class a sub-cause belongs to (R376). -/
def subClass : ErrSub → ErrClass
  | .none => .none
  | .zlibMethod => .malformedHeader
  | .zlibWindow => .malformedHeader
  | .zlibFcheck => .malformedHeader
  | .gzipMagic => .malformedHeader
  | .gzipMethod => .malformedHeader
  | .blockType3 => .malformedHeader
  | .zlibPresetDict => .unsupportedFeature
  | .storedLenMismatch => .streamCorruption
  | .invalidHuffmanCode => .streamCorruption
  | .repeatWithoutPrevious => .streamCorruption
  | .repeatOverrun => .streamCorruption
  | .invalidLengthSymbol => .streamCorruption
  | .invalidDistanceSymbol => .streamCorruption
  | .invalidBackReference => .streamCorruption
  | .adler32 => .checksumMismatch
  | .crc32 => .checksumMismatch
  | .isize => .checksumMismatch
  | .eos => .unexpectedEndOfStream

/-- The number on the port `err_class` (R375). -/
def classCode : ErrClass → BitVec 3
  | .none => 0
  | .malformedHeader => 1
  | .unsupportedFeature => 2
  | .streamCorruption => 3
  | .checksumMismatch => 4
  | .unexpectedEndOfStream => 5

/-- The number on the port `err_sub` (R376). -/
def subCode : ErrSub → BitVec 5
  | .none => 0
  | .zlibMethod => 1
  | .zlibWindow => 2
  | .zlibFcheck => 3
  | .gzipMagic => 4
  | .gzipMethod => 5
  | .blockType3 => 6
  | .zlibPresetDict => 7
  | .storedLenMismatch => 8
  | .invalidHuffmanCode => 9
  | .repeatWithoutPrevious => 10
  | .repeatOverrun => 11
  | .invalidLengthSymbol => 12
  | .invalidDistanceSymbol => 13
  | .invalidBackReference => 14
  | .adler32 => 15
  | .crc32 => 16
  | .isize => 17
  | .eos => 18

/-- The number on the port `phase` (R24). -/
def phaseCode : Phase → BitVec 5
  | .idle => 0
  | .zlibHdr => 1
  | .gzipHdr => 2
  | .gzipExtra => 3
  | .gzipName => 4
  | .gzipComment => 5
  | .gzipHcrc => 6
  | .blockHdr => 7
  | .storedHdr => 8
  | .storedCopy => 9
  | .dynHdr => 10
  | .dynCllen => 11
  | .dynLens => 12
  | .symbol => 13
  | .copy => 14
  | .zlibTrailer => 15
  | .gzipTrailer => 16
  | .done => 17
  | .error => 18

/-- `busy` (R27): an operation is in flight. -/
def busy (s : State) : Bool := decide (s.phase ≠ .idle ∧ s.phase ≠ .done ∧ s.phase ≠ .error)

/-- `adler32 = (ADLER_B << 16) | ADLER_A` (R27, R282). -/
def adler32 (s : State) : BitVec 32 := s.adlerB ++ s.adlerA

/-- The size the gzip trailer is compared with, `TOTAL mod 2^32` (R46, R288). -/
def sizeField (s : State) : BitVec 32 := BitVec.ofNat 32 s.total

/-- `cfg_invalid` (R343), a function of the configuration ports alone. -/
def cfgInvalid (s : State) : Bool :=
  decide (s.cfgMode = 3 ∨ (s.cfgMode = 0 ∧ s.cfgWindowBits.toNat < 8))

/-- The source may append a byte or end the input (R348). -/
def sourceEnabled (s : State) : Bool := busy s && !s.inEos

/-- The status ports (R27, R340). -/
structure Status where
  busy : Bool
  done : Bool
  error : Bool
  cfgInvalid : Bool
  phase : BitVec 5
  errClass : BitVec 3
  errSub : BitVec 5
  adler32 : BitVec 32
  crc32 : BitVec 32
  totalOut : Nat
  inBytes : Nat
  windowBits : BitVec 4
  bfinal : Bool
  btype : BitVec 2
  deriving DecidableEq, Repr

/-- What the host reads (R27): functions of the registers, which nothing writes (R400). -/
def status (s : State) : Status where
  busy := Machine.busy s
  done := decide (s.phase = .done)
  error := decide (s.phase = .error)
  cfgInvalid := Machine.cfgInvalid s
  phase := phaseCode s.phase
  errClass := classCode s.errClass
  errSub := subCode s.errSub
  adler32 := Machine.adler32 s
  crc32 := s.crc
  totalOut := s.total
  inBytes := (s.pc + 7) / 8
  windowBits := s.wbits
  bfinal := s.bfinal
  btype := s.btype

end Sys2Proof.Machine
end

