-- ==== Sys2Proof/Machine/Ops.lean ====
section
/-! DEFINITION. The operations the rules share: the outcome of a firing, fault entry (60_exceptions R380), the input cursor,
the window RAM (20_memory R64), `Emit` (42_sliding_window R161), the end of a block (43_deflate_blocks R177), the code
lengths of a dynamic header (R184, R189). -/

namespace Sys2Proof.Machine

/-- What a rule does when it is tried (00_scope R15, R16): it fires, it holds, it raises, or (no run reaches it) it
stops. -/
inductive Firing where
  | done (s : State)
  | hold
  | raise (e : ErrSub)
  | stop (f : Fault)
  deriving DecidableEq, Repr

/-- The body of a rule, from the state in which it begins. -/
abbrev Rule := State → Firing

/-- The next statement of a rule sees the writes of the earlier ones; a hold or a raise ends the rule (R15, R16). -/
def Firing.andThen (f : Firing) (r : Rule) : Firing :=
  match f with
  | .done s => r s
  | .hold => .hold
  | .raise e => .raise e
  | .stop x => .stop x

/-- TAKING AN EXCEPTION: `raise <Class>(<SubCause>)` from the state in which the rule began (R380). `pc` is where the
element began, nothing but the three registers is written, and control goes nowhere: there is no handler and no return
(R384); only `start` and hardware reset leave ERROR. -/
def enterError (e : ErrSub) (s : State) : State := { s with errClass := subClass e, errSub := e, phase := .error }

/-- One atomic firing of a rule (20_memory R73): its writes all happen, or none (a hold), or only those of fault entry. A
hold is the same state again (R8, log 15). -/
def commit (r : Rule) (s : State) : Host.Outcome State Fault Refusal :=
  match r s with
  | .done s' => .next s'
  | .hold => .next s
  | .raise e => .next (enterError e s)
  | .stop f => .fault f

/-- `n` bits have been read (R23). -/
def advance (n : Nat) (s : State) : State := { s with pc := s.pc + n }

/-- `discardBits()`, then `n` bits have been read (R23, R124). -/
def advanceAligned (n : Nat) (s : State) : State := { s with pc := alignUp s.pc + n }

/-- The byte last written to a cell (R64). -/
def Memory.read (m : Memory) (addr : BitVec 15) : Option Byte := (m.find? fun c => c.1 = addr.toNat).map (·.2)

/-- `MemWrite` (R64) on the cells from some address on: the cell's entry is replaced, or put where its address belongs. -/
def Memory.insertCell (a : Nat) (b : Byte) : Memory → Memory
  | [] => [(a, b)]
  | c :: m => if a < c.1 then (a, b) :: c :: m else if c.1 = a then (a, b) :: m else c :: Memory.insertCell a b m

/-- `MemWrite(addr, 1, v)` (R64). -/
def Memory.write (m : Memory) (addr : BitVec 15) (b : Byte) : Memory := Memory.insertCell addr.toNat b m

/-- The canonical form: addresses strictly rising, all of them cells that exist. No entry can equal what an unlisted cell
reads as, since that is no value. -/
def Memory.wf : Memory → Bool
  | [] => true
  | [c] => decide (c.1 < 2 ^ Config.windowBitsMax)
  | c :: d :: m => decide (c.1 < d.1) && Memory.wf (d :: m)

/-- The address of a back-reference read, `(WPOS - MDIST) mod 2^WBITS` (R64, R163), with the non-negative remainder of
R13. -/
def copyAddr (s : State) : BitVec 15 :=
  BitVec.ofInt 15 (((s.wpos.toNat : Int) - (s.mdist.toNat : Int)) % ((2 ^ s.wbits.toNat : Nat) : Int))

/-- The writes of `Emit(b)` (R161). -/
def emitted (b : Byte) (s : State) : State :=
  { s with
    win := s.win.write s.wpos b
    wpos := BitVec.ofNat 15 ((s.wpos.toNat + 1) % 2 ^ s.wbits.toNat)
    total := s.total + 1
    adlerA := (adlerStep s.adlerA s.adlerB b).1
    adlerB := (adlerStep s.adlerA s.adlerB b).2
    crc := crcStep s.crc b
    output := s.output ++ [b] }

/-- `Emit(b)` (R161): the rule holds while the sink cannot take a byte. -/
def emit (b : Byte) : Rule := fun s => if s.sinkReady then .done (emitted b s) else .hold

/-- `after_block()` (R177). -/
def afterBlock (s : State) : Phase :=
  if s.bfinal then
    match s.mode with
    | .raw => .done
    | .zlib => .zlibTrailer
    | .gzip => .gzipTrailer
  else .blockHdr

/-- The bits the code of symbol `c` takes in the literal/length table: its length (R145, log 12). -/
def llBits (c : Nat) (s : State) : Nat := (entry s.llLen c).toNat

/-- The same in the distance table. -/
def dBits (d : Nat) (s : State) : Nat := (entry s.dLen d).toNat

/-- The same in the code-length table. -/
def clBits (c : Nat) (s : State) : Nat := (entry s.clLen c).toNat

/-- `LENS[i]` after `LENS[from .. from+n-1] <- v`; there is no entry past 319 (R184, log 9). -/
def filledLens (lens : Vector (BitVec 4) 320) (start n : Nat) (v : BitVec 4) : Vector (BitVec 4) 320 :=
  vecOf 320 fun i => if start ≤ i ∧ i < start + n then v else entry lens i

/-- The split of the coded lengths into the two tables (R189). -/
def splitLens (s : State) : State :=
  { s with
    llLen := vecOf 288 fun i => if i < s.hlit.toNat then entry s.lens i else 0
    dLen := vecOf 32 fun i => if i < s.hdist.toNat then entry s.lens (s.hlit.toNat + i) else 0 }

/-- The common part of a coded-length element (R184) once its value and count are known: overrun check, the `n` entries,
and at the last one the split. -/
def appendLengths (v : BitVec 4) (n : Nat) : Rule := fun s =>
  let want := s.hlit.toNat + s.hdist.toNat
  let l := s.lidx.toNat + n
  if want < l then .raise .repeatOverrun
  else
    let t := { s with lens := filledLens s.lens s.lidx.toNat n v, lidx := BitVec.ofNat 9 l }
    if l = want then .done { splitLens t with phase := .symbol } else .done t

/-- What decoding depends on, from the registers (10_state R25). -/
def decodeCtx (s : State) : DecodeCtx where
  phase := s.phase
  xlenValid := s.xlenValid
  hasPrevious := decide (s.lidx ≠ 0)
  cl := lengthsOf s.clLen
  ll := lengthsOf s.llLen
  dist := lengthsOf s.dLen

/-- The place in the input where the next element begins (R22, R61). -/
def cursor (s : State) : Cursor := ⟨s.pc, (bitsOfBytes s.input).drop s.pc⟩

end Sys2Proof.Machine
end

