-- ==== Sys2Proof/Machine/Blocks.lean ====
section
/-! DEFINITION. The block layer (43_deflate_blocks): block headers, stored blocks, the fixed-size part of a dynamic header. -/

namespace Sys2Proof.Machine

/-- What a block header writes before its case (R176). -/
def blockHeader (final : Bool) (btype : BitVec 2) (s : State) : State :=
  { advance 3 s with bfinal := final, btype := btype }

/-- `BLK_STORED` (R176). -/
def execBlkStored (final : Bool) (s : State) : Host.Outcome State Fault Refusal :=
  commit (fun s => .done { blockHeader final 0 s with phase := .storedHdr }) s

/-- `BLK_FIXED` (R176): the constant code lengths are loaded. -/
def execBlkFixed (final : Bool) (s : State) : Host.Outcome State Fault Refusal :=
  commit (fun s =>
    .done { blockHeader final 1 s with llLen := vecOf 288 fixedLlLen, dLen := vecOf 32 fixedDLen, phase := .symbol }) s

/-- `BLK_DYNAMIC` (R176). -/
def execBlkDynamic (final : Bool) (s : State) : Host.Outcome State Fault Refusal :=
  commit (fun s => .done { blockHeader final 2 s with phase := .dynHdr }) s

/-- `BLK_RESERVED` (R176): block type 3 faults, with either value of `BFINAL`. -/
def execBlkReserved (_final : Bool) (s : State) : Host.Outcome State Fault Refusal :=
  commit (fun _ => .raise .blockType3) s

/-- `STORED_HDR` (R178). -/
def execStoredHdr (len nlen : BitVec 16) (s : State) : Host.Outcome State Fault Refusal :=
  commit (fun s =>
    if len ≠ ~~~nlen then .raise .storedLenMismatch
    else .done { advanceAligned 32 s with slen := len, phase := if len = 0 then afterBlock s else .storedCopy }) s

/-- `STORED_BYTE` (R179): one byte of the payload. -/
def execStoredByte (b : Byte) (s : State) : Host.Outcome State Fault Refusal :=
  commit (fun s =>
    (emit b (advance 8 s)).andThen fun t =>
      .done { t with slen := t.slen - 1, phase := if t.slen - 1 = 0 then afterBlock t else t.phase }) s

/-- `DYN_HDR` (R182): the three counts with their offsets, and an empty code-length table. -/
def execDynHdr (hlit hdist : BitVec 5) (hclen : BitVec 4) (s : State) : Host.Outcome State Fault Refusal :=
  commit (fun s =>
    .done { advance 14 s with
      hlit := hlit.setWidth 9 + 257
      hdist := hdist.setWidth 6 + 1
      hclen := hclen.setWidth 5 + 4
      clLen := Vector.replicate 19 0
      clidx := 0
      phase := .dynCllen }) s

/-- `DYN_CLLEN` (R183): the length of code-length symbol `CL_ORDER[CLIDX]`; past the 19th there is no symbol and nothing is
written (log 9). -/
def execDynCllen (v : BitVec 3) (s : State) : Host.Outcome State Fault Refusal :=
  commit (fun s =>
    let t := { advance 3 s with
      clLen := match clOrder[s.clidx.toNat]? with
        | some k => s.clLen.setIfInBounds k v
        | none => s.clLen
      clidx := s.clidx + 1 }
    .done (if t.clidx = t.hclen then { t with lidx := 0, phase := .dynLens } else t)) s

end Sys2Proof.Machine
end

