-- ==== Sys2Proof/Machine/CodeLengths.lean ====
section
/-! DEFINITION. The coded-length elements of a dynamic header (43_deflate_blocks R184 to R188). -/

namespace Sys2Proof.Machine

/-- A coded-length element whose symbol is `sym`, with `extra` extra bits, giving `n` lengths `v` (R184). -/
def codedLength (sym extra : Nat) (v : BitVec 4) (n : Nat) : Rule := fun s =>
  appendLengths v n (advance (clBits sym s + extra) s)

/-- `CL_LEN0` (R185): one length of value 0. -/
def execClLen0 (s : State) : Host.Outcome State Fault Refusal := commit (codedLength 0 0 0 1) s

/-- `CL_LEN1` (R185): one length of value 1. -/
def execClLen1 (s : State) : Host.Outcome State Fault Refusal := commit (codedLength 1 0 1 1) s

/-- `CL_LEN2` (R185): one length of value 2. -/
def execClLen2 (s : State) : Host.Outcome State Fault Refusal := commit (codedLength 2 0 2 1) s

/-- `CL_LEN3` (R185): one length of value 3. -/
def execClLen3 (s : State) : Host.Outcome State Fault Refusal := commit (codedLength 3 0 3 1) s

/-- `CL_LEN4` (R185): one length of value 4. -/
def execClLen4 (s : State) : Host.Outcome State Fault Refusal := commit (codedLength 4 0 4 1) s

/-- `CL_LEN5` (R185): one length of value 5. -/
def execClLen5 (s : State) : Host.Outcome State Fault Refusal := commit (codedLength 5 0 5 1) s

/-- `CL_LEN6` (R185): one length of value 6. -/
def execClLen6 (s : State) : Host.Outcome State Fault Refusal := commit (codedLength 6 0 6 1) s

/-- `CL_LEN7` (R185): one length of value 7. -/
def execClLen7 (s : State) : Host.Outcome State Fault Refusal := commit (codedLength 7 0 7 1) s

/-- `CL_LEN8` (R185): one length of value 8. -/
def execClLen8 (s : State) : Host.Outcome State Fault Refusal := commit (codedLength 8 0 8 1) s

/-- `CL_LEN9` (R185): one length of value 9. -/
def execClLen9 (s : State) : Host.Outcome State Fault Refusal := commit (codedLength 9 0 9 1) s

/-- `CL_LEN10` (R185): one length of value 10. -/
def execClLen10 (s : State) : Host.Outcome State Fault Refusal := commit (codedLength 10 0 10 1) s

/-- `CL_LEN11` (R185): one length of value 11. -/
def execClLen11 (s : State) : Host.Outcome State Fault Refusal := commit (codedLength 11 0 11 1) s

/-- `CL_LEN12` (R185): one length of value 12. -/
def execClLen12 (s : State) : Host.Outcome State Fault Refusal := commit (codedLength 12 0 12 1) s

/-- `CL_LEN13` (R185): one length of value 13. -/
def execClLen13 (s : State) : Host.Outcome State Fault Refusal := commit (codedLength 13 0 13 1) s

/-- `CL_LEN14` (R185): one length of value 14. -/
def execClLen14 (s : State) : Host.Outcome State Fault Refusal := commit (codedLength 14 0 14 1) s

/-- `CL_LEN15` (R185): one length of value 15. -/
def execClLen15 (s : State) : Host.Outcome State Fault Refusal := commit (codedLength 15 0 15 1) s

/-- `CL_REP16` (R186): the previous length 3 to 6 times; the test for a previous length comes first. -/
def execClRep16 (e : BitVec 2) (s : State) : Host.Outcome State Fault Refusal :=
  commit (fun s =>
    if s.lidx = 0 then .raise .repeatWithoutPrevious
    else codedLength 16 2 (entry s.lens (s.lidx.toNat - 1)) (3 + e.toNat) s) s

/-- `CL_ZREP17` (R187): 3 to 10 zeros. -/
def execClZrep17 (e : BitVec 3) (s : State) : Host.Outcome State Fault Refusal := commit (codedLength 17 3 0 (3 + e.toNat)) s

/-- `CL_ZREP18` (R188): 11 to 138 zeros. -/
def execClZrep18 (e : BitVec 7) (s : State) : Host.Outcome State Fault Refusal := commit (codedLength 18 7 0 (11 + e.toNat)) s

end Sys2Proof.Machine
end

