-- ==== Sys2Proof/Machine/Gzip.lean ====
section
/-! DEFINITION. The gzip container elements (47_gzip_wrapper). -/

namespace Sys2Proof.Machine

/-- `gz_next(GZIP_COMMENT)` (R317). -/
def gzAfterComment (flg : Byte) : Phase := if flg.getLsbD 1 then .gzipHcrc else .blockHdr

/-- `gz_next(GZIP_NAME)` (R317). -/
def gzAfterName (flg : Byte) : Phase := if flg.getLsbD 4 then .gzipComment else gzAfterComment flg

/-- `gz_next(GZIP_EXTRA)` (R317). -/
def gzAfterExtra (flg : Byte) : Phase := if flg.getLsbD 3 then .gzipName else gzAfterName flg

/-- `gz_next(GZIP_HDR)` (R317). -/
def gzAfterHdr (flg : Byte) : Phase := if flg.getLsbD 2 then .gzipExtra else gzAfterExtra flg

/-- `GZIP_HDR` (R316): ten bytes are read, then the magic is tested, then the method; `mtime`, `xfl` and `os` are dropped. -/
def execGzipHdr (id1 id2 cm flg : Byte) (_mtime : BitVec 32) (_xfl _os : Byte) (s : State) :
    Host.Outcome State Fault Refusal :=
  commit (fun s =>
    if id1 ≠ 0x1F ∨ id2 ≠ 0x8B then .raise .gzipMagic
    else if cm ≠ 8 then .raise .gzipMethod
    else .done { advanceAligned 80 s with gflg := flg, phase := gzAfterHdr flg }) s

/-- The last line of `GZIP_EXTRA` (R318): on to the next part once no payload byte is left. -/
def extraStep (s : State) : State := if s.xlen = 0 then { s with phase := gzAfterExtra s.gflg } else s

/-- `GZIP_EXTRA` (R318): the length prefix, or one payload byte, which is dropped. -/
def execGzipExtra (part : ExtraPart) (s : State) : Host.Outcome State Fault Refusal :=
  commit (fun s =>
    match part with
    | .lengthField n => .done (extraStep { advanceAligned 16 s with xlen := n, xlenValid := true })
    | .payload _ => .done (extraStep { advanceAligned 8 s with xlen := s.xlen - 1 })) s

/-- `GZIP_NAME` (R319): one byte of the name, dropped; the byte 0 ends it. -/
def execGzipName (b : Byte) (s : State) : Host.Outcome State Fault Refusal :=
  commit (fun s =>
    .done { advanceAligned 8 s with phase := if b = 0 then gzAfterName s.gflg else s.phase }) s

/-- `GZIP_COMMENT` (R320): one byte of the comment, dropped; the byte 0 ends it. -/
def execGzipComment (b : Byte) (s : State) : Host.Outcome State Fault Refusal :=
  commit (fun s =>
    .done { advanceAligned 8 s with phase := if b = 0 then gzAfterComment s.gflg else s.phase }) s

/-- `GZIP_HCRC` (R321): dropped, never validated. -/
def execGzipHcrc (_v : BitVec 16) (s : State) : Host.Outcome State Fault Refusal :=
  commit (fun s => .done { advanceAligned 16 s with phase := .blockHdr }) s

/-- `GZIP_TRAILER` (R323): always read; compared, the CRC first, when `CHECK_CRC` is set. -/
def execGzipTrailer (crc isize : BitVec 32) (s : State) : Host.Outcome State Fault Refusal :=
  commit (fun s =>
    if s.checkCrc && crc ≠ s.crc then .raise .crc32
    else if s.checkCrc && isize ≠ sizeField s then .raise .isize
    else .done { advanceAligned 64 s with phase := .done }) s

end Sys2Proof.Machine
end

