-- ==== Sys2Proof/Machine/Distances.lean ====
section
/-! DEFINITION. The distance part of a back-reference (44_deflate_symbols R204, R205, R207, R240 to R269), as the rule of
each symbol and as the element of its opcode row (log 13). -/

namespace Sys2Proof.Machine

/-- Distance symbol `d` with `extra` extra bits and the distance they give (R204). -/
def distanceRule (d extra dist : Nat) : Rule := fun s =>
  .done { advance (dBits d s + extra) s with mdist := BitVec.ofNat 16 dist, phase := .copy }

/-- `DIST0` (R240): 1. -/
def ruleDist0 : Rule := distanceRule 0 0 1

/-- `DIST1` (R241): 2. -/
def ruleDist1 : Rule := distanceRule 1 0 2

/-- `DIST2` (R242): 3. -/
def ruleDist2 : Rule := distanceRule 2 0 3

/-- `DIST3` (R243): 4. -/
def ruleDist3 : Rule := distanceRule 3 0 4

/-- `DIST4` (R244): 5 to 6. -/
def ruleDist4 (e : BitVec 1) : Rule := distanceRule 4 1 (5 + e.toNat)

/-- `DIST5` (R245): 7 to 8. -/
def ruleDist5 (e : BitVec 1) : Rule := distanceRule 5 1 (7 + e.toNat)

/-- `DIST6` (R246): 9 to 12. -/
def ruleDist6 (e : BitVec 2) : Rule := distanceRule 6 2 (9 + e.toNat)

/-- `DIST7` (R247): 13 to 16. -/
def ruleDist7 (e : BitVec 2) : Rule := distanceRule 7 2 (13 + e.toNat)

/-- `DIST8` (R248): 17 to 24. -/
def ruleDist8 (e : BitVec 3) : Rule := distanceRule 8 3 (17 + e.toNat)

/-- `DIST9` (R249): 25 to 32. -/
def ruleDist9 (e : BitVec 3) : Rule := distanceRule 9 3 (25 + e.toNat)

/-- `DIST10` (R250): 33 to 48. -/
def ruleDist10 (e : BitVec 4) : Rule := distanceRule 10 4 (33 + e.toNat)

/-- `DIST11` (R251): 49 to 64. -/
def ruleDist11 (e : BitVec 4) : Rule := distanceRule 11 4 (49 + e.toNat)

/-- `DIST12` (R252): 65 to 96. -/
def ruleDist12 (e : BitVec 5) : Rule := distanceRule 12 5 (65 + e.toNat)

/-- `DIST13` (R253): 97 to 128. -/
def ruleDist13 (e : BitVec 5) : Rule := distanceRule 13 5 (97 + e.toNat)

/-- `DIST14` (R254): 129 to 192. -/
def ruleDist14 (e : BitVec 6) : Rule := distanceRule 14 6 (129 + e.toNat)

/-- `DIST15` (R255): 193 to 256. -/
def ruleDist15 (e : BitVec 6) : Rule := distanceRule 15 6 (193 + e.toNat)

/-- `DIST16` (R256): 257 to 384. -/
def ruleDist16 (e : BitVec 7) : Rule := distanceRule 16 7 (257 + e.toNat)

/-- `DIST17` (R257): 385 to 512. -/
def ruleDist17 (e : BitVec 7) : Rule := distanceRule 17 7 (385 + e.toNat)

/-- `DIST18` (R258): 513 to 768. -/
def ruleDist18 (e : BitVec 8) : Rule := distanceRule 18 8 (513 + e.toNat)

/-- `DIST19` (R259): 769 to 1024. -/
def ruleDist19 (e : BitVec 8) : Rule := distanceRule 19 8 (769 + e.toNat)

/-- `DIST20` (R260): 1025 to 1536. -/
def ruleDist20 (e : BitVec 9) : Rule := distanceRule 20 9 (1025 + e.toNat)

/-- `DIST21` (R261): 1537 to 2048. -/
def ruleDist21 (e : BitVec 9) : Rule := distanceRule 21 9 (1537 + e.toNat)

/-- `DIST22` (R262): 2049 to 3072. -/
def ruleDist22 (e : BitVec 10) : Rule := distanceRule 22 10 (2049 + e.toNat)

/-- `DIST23` (R263): 3073 to 4096. -/
def ruleDist23 (e : BitVec 10) : Rule := distanceRule 23 10 (3073 + e.toNat)

/-- `DIST24` (R264): 4097 to 6144. -/
def ruleDist24 (e : BitVec 11) : Rule := distanceRule 24 11 (4097 + e.toNat)

/-- `DIST25` (R265): 6145 to 8192. -/
def ruleDist25 (e : BitVec 11) : Rule := distanceRule 25 11 (6145 + e.toNat)

/-- `DIST26` (R266): 8193 to 12288. -/
def ruleDist26 (e : BitVec 12) : Rule := distanceRule 26 12 (8193 + e.toNat)

/-- `DIST27` (R267): 12289 to 16384. -/
def ruleDist27 (e : BitVec 12) : Rule := distanceRule 27 12 (12289 + e.toNat)

/-- `DIST28` (R268): 16385 to 24576. -/
def ruleDist28 (e : BitVec 13) : Rule := distanceRule 28 13 (16385 + e.toNat)

/-- `DIST29` (R269): 24577 to 32768. -/
def ruleDist29 (e : BitVec 13) : Rule := distanceRule 29 13 (24577 + e.toNat)

/-- `DIST30` (R207): no meaning, a fault; no bit after the code is read. -/
def ruleDist30 : Rule := fun _ => .raise .invalidDistanceSymbol

/-- `DIST31` (R207): no meaning, a fault; no bit after the code is read. -/
def ruleDist31 : Rule := fun _ => .raise .invalidDistanceSymbol

/-- The distance part of a `LENnnn` element (R204): the rule of its symbol. -/
def runDist (d : DistPart) : Rule :=
  match d.sym.toNat with
  | 0 => ruleDist0
  | 1 => ruleDist1
  | 2 => ruleDist2
  | 3 => ruleDist3
  | 4 => ruleDist4 (d.extra.setWidth 1)
  | 5 => ruleDist5 (d.extra.setWidth 1)
  | 6 => ruleDist6 (d.extra.setWidth 2)
  | 7 => ruleDist7 (d.extra.setWidth 2)
  | 8 => ruleDist8 (d.extra.setWidth 3)
  | 9 => ruleDist9 (d.extra.setWidth 3)
  | 10 => ruleDist10 (d.extra.setWidth 4)
  | 11 => ruleDist11 (d.extra.setWidth 4)
  | 12 => ruleDist12 (d.extra.setWidth 5)
  | 13 => ruleDist13 (d.extra.setWidth 5)
  | 14 => ruleDist14 (d.extra.setWidth 6)
  | 15 => ruleDist15 (d.extra.setWidth 6)
  | 16 => ruleDist16 (d.extra.setWidth 7)
  | 17 => ruleDist17 (d.extra.setWidth 7)
  | 18 => ruleDist18 (d.extra.setWidth 8)
  | 19 => ruleDist19 (d.extra.setWidth 8)
  | 20 => ruleDist20 (d.extra.setWidth 9)
  | 21 => ruleDist21 (d.extra.setWidth 9)
  | 22 => ruleDist22 (d.extra.setWidth 10)
  | 23 => ruleDist23 (d.extra.setWidth 10)
  | 24 => ruleDist24 (d.extra.setWidth 11)
  | 25 => ruleDist25 (d.extra.setWidth 11)
  | 26 => ruleDist26 (d.extra.setWidth 12)
  | 27 => ruleDist27 (d.extra.setWidth 12)
  | 28 => ruleDist28 (d.extra.setWidth 13)
  | 29 => ruleDist29 (d.extra.setWidth 13)
  | 30 => ruleDist30
  | _ => ruleDist31

/-- `DIST0` (R240). -/
def execDist0 (s : State) : Host.Outcome State Fault Refusal := commit ruleDist0 s

/-- `DIST1` (R241). -/
def execDist1 (s : State) : Host.Outcome State Fault Refusal := commit ruleDist1 s

/-- `DIST2` (R242). -/
def execDist2 (s : State) : Host.Outcome State Fault Refusal := commit ruleDist2 s

/-- `DIST3` (R243). -/
def execDist3 (s : State) : Host.Outcome State Fault Refusal := commit ruleDist3 s

/-- `DIST4` (R244). -/
def execDist4 (e : BitVec 1) (s : State) : Host.Outcome State Fault Refusal := commit (ruleDist4 e) s

/-- `DIST5` (R245). -/
def execDist5 (e : BitVec 1) (s : State) : Host.Outcome State Fault Refusal := commit (ruleDist5 e) s

/-- `DIST6` (R246). -/
def execDist6 (e : BitVec 2) (s : State) : Host.Outcome State Fault Refusal := commit (ruleDist6 e) s

/-- `DIST7` (R247). -/
def execDist7 (e : BitVec 2) (s : State) : Host.Outcome State Fault Refusal := commit (ruleDist7 e) s

/-- `DIST8` (R248). -/
def execDist8 (e : BitVec 3) (s : State) : Host.Outcome State Fault Refusal := commit (ruleDist8 e) s

/-- `DIST9` (R249). -/
def execDist9 (e : BitVec 3) (s : State) : Host.Outcome State Fault Refusal := commit (ruleDist9 e) s

/-- `DIST10` (R250). -/
def execDist10 (e : BitVec 4) (s : State) : Host.Outcome State Fault Refusal := commit (ruleDist10 e) s

/-- `DIST11` (R251). -/
def execDist11 (e : BitVec 4) (s : State) : Host.Outcome State Fault Refusal := commit (ruleDist11 e) s

/-- `DIST12` (R252). -/
def execDist12 (e : BitVec 5) (s : State) : Host.Outcome State Fault Refusal := commit (ruleDist12 e) s

/-- `DIST13` (R253). -/
def execDist13 (e : BitVec 5) (s : State) : Host.Outcome State Fault Refusal := commit (ruleDist13 e) s

/-- `DIST14` (R254). -/
def execDist14 (e : BitVec 6) (s : State) : Host.Outcome State Fault Refusal := commit (ruleDist14 e) s

/-- `DIST15` (R255). -/
def execDist15 (e : BitVec 6) (s : State) : Host.Outcome State Fault Refusal := commit (ruleDist15 e) s

/-- `DIST16` (R256). -/
def execDist16 (e : BitVec 7) (s : State) : Host.Outcome State Fault Refusal := commit (ruleDist16 e) s

/-- `DIST17` (R257). -/
def execDist17 (e : BitVec 7) (s : State) : Host.Outcome State Fault Refusal := commit (ruleDist17 e) s

/-- `DIST18` (R258). -/
def execDist18 (e : BitVec 8) (s : State) : Host.Outcome State Fault Refusal := commit (ruleDist18 e) s

/-- `DIST19` (R259). -/
def execDist19 (e : BitVec 8) (s : State) : Host.Outcome State Fault Refusal := commit (ruleDist19 e) s

/-- `DIST20` (R260). -/
def execDist20 (e : BitVec 9) (s : State) : Host.Outcome State Fault Refusal := commit (ruleDist20 e) s

/-- `DIST21` (R261). -/
def execDist21 (e : BitVec 9) (s : State) : Host.Outcome State Fault Refusal := commit (ruleDist21 e) s

/-- `DIST22` (R262). -/
def execDist22 (e : BitVec 10) (s : State) : Host.Outcome State Fault Refusal := commit (ruleDist22 e) s

/-- `DIST23` (R263). -/
def execDist23 (e : BitVec 10) (s : State) : Host.Outcome State Fault Refusal := commit (ruleDist23 e) s

/-- `DIST24` (R264). -/
def execDist24 (e : BitVec 11) (s : State) : Host.Outcome State Fault Refusal := commit (ruleDist24 e) s

/-- `DIST25` (R265). -/
def execDist25 (e : BitVec 11) (s : State) : Host.Outcome State Fault Refusal := commit (ruleDist25 e) s

/-- `DIST26` (R266). -/
def execDist26 (e : BitVec 12) (s : State) : Host.Outcome State Fault Refusal := commit (ruleDist26 e) s

/-- `DIST27` (R267). -/
def execDist27 (e : BitVec 12) (s : State) : Host.Outcome State Fault Refusal := commit (ruleDist27 e) s

/-- `DIST28` (R268). -/
def execDist28 (e : BitVec 13) (s : State) : Host.Outcome State Fault Refusal := commit (ruleDist28 e) s

/-- `DIST29` (R269). -/
def execDist29 (e : BitVec 13) (s : State) : Host.Outcome State Fault Refusal := commit (ruleDist29 e) s

/-- `DIST30` (R207). -/
def execDist30 (s : State) : Host.Outcome State Fault Refusal := commit ruleDist30 s

/-- `DIST31` (R207). -/
def execDist31 (s : State) : Host.Outcome State Fault Refusal := commit ruleDist31 s

end Sys2Proof.Machine
end

