-- ==== Sys2Proof/Machine/Symbols.lean ====
section
/-! DEFINITION. The symbol loop (44_deflate_symbols R202 to R206, R210 to R238). -/

namespace Sys2Proof.Machine

/-- `LIT` (R202). -/
def execLit (b : Byte) (s : State) : Host.Outcome State Fault Refusal :=
  commit (fun s => emit b (advance (llBits b.toNat s) s)) s

/-- `EOB` (R203). -/
def execEob (s : State) : Host.Outcome State Fault Refusal :=
  commit (fun s => .done { advance (llBits 256 s) s with phase := afterBlock s }) s

/-- A back-reference (R204): the length symbol `c`, its `extra` extra bits and the length they give, then the distance. -/
def lengthRule (c extra len : Nat) (d : DistPart) : Rule := fun s =>
  runDist d { advance (llBits c s + extra) s with mlen := BitVec.ofNat 9 len }

/-- `LEN257` (R210): length 3. -/
def execLen257 (d : DistPart) (s : State) : Host.Outcome State Fault Refusal := commit (lengthRule 257 0 3 d) s

/-- `LEN258` (R211): length 4. -/
def execLen258 (d : DistPart) (s : State) : Host.Outcome State Fault Refusal := commit (lengthRule 258 0 4 d) s

/-- `LEN259` (R212): length 5. -/
def execLen259 (d : DistPart) (s : State) : Host.Outcome State Fault Refusal := commit (lengthRule 259 0 5 d) s

/-- `LEN260` (R213): length 6. -/
def execLen260 (d : DistPart) (s : State) : Host.Outcome State Fault Refusal := commit (lengthRule 260 0 6 d) s

/-- `LEN261` (R214): length 7. -/
def execLen261 (d : DistPart) (s : State) : Host.Outcome State Fault Refusal := commit (lengthRule 261 0 7 d) s

/-- `LEN262` (R215): length 8. -/
def execLen262 (d : DistPart) (s : State) : Host.Outcome State Fault Refusal := commit (lengthRule 262 0 8 d) s

/-- `LEN263` (R216): length 9. -/
def execLen263 (d : DistPart) (s : State) : Host.Outcome State Fault Refusal := commit (lengthRule 263 0 9 d) s

/-- `LEN264` (R217): length 10. -/
def execLen264 (d : DistPart) (s : State) : Host.Outcome State Fault Refusal := commit (lengthRule 264 0 10 d) s

/-- `LEN265` (R218): length 11 to 12. -/
def execLen265 (e : BitVec 1) (d : DistPart) (s : State) : Host.Outcome State Fault Refusal := commit (lengthRule 265 1 (11 + e.toNat) d) s

/-- `LEN266` (R219): length 13 to 14. -/
def execLen266 (e : BitVec 1) (d : DistPart) (s : State) : Host.Outcome State Fault Refusal := commit (lengthRule 266 1 (13 + e.toNat) d) s

/-- `LEN267` (R220): length 15 to 16. -/
def execLen267 (e : BitVec 1) (d : DistPart) (s : State) : Host.Outcome State Fault Refusal := commit (lengthRule 267 1 (15 + e.toNat) d) s

/-- `LEN268` (R221): length 17 to 18. -/
def execLen268 (e : BitVec 1) (d : DistPart) (s : State) : Host.Outcome State Fault Refusal := commit (lengthRule 268 1 (17 + e.toNat) d) s

/-- `LEN269` (R222): length 19 to 22. -/
def execLen269 (e : BitVec 2) (d : DistPart) (s : State) : Host.Outcome State Fault Refusal := commit (lengthRule 269 2 (19 + e.toNat) d) s

/-- `LEN270` (R223): length 23 to 26. -/
def execLen270 (e : BitVec 2) (d : DistPart) (s : State) : Host.Outcome State Fault Refusal := commit (lengthRule 270 2 (23 + e.toNat) d) s

/-- `LEN271` (R224): length 27 to 30. -/
def execLen271 (e : BitVec 2) (d : DistPart) (s : State) : Host.Outcome State Fault Refusal := commit (lengthRule 271 2 (27 + e.toNat) d) s

/-- `LEN272` (R225): length 31 to 34. -/
def execLen272 (e : BitVec 2) (d : DistPart) (s : State) : Host.Outcome State Fault Refusal := commit (lengthRule 272 2 (31 + e.toNat) d) s

/-- `LEN273` (R226): length 35 to 42. -/
def execLen273 (e : BitVec 3) (d : DistPart) (s : State) : Host.Outcome State Fault Refusal := commit (lengthRule 273 3 (35 + e.toNat) d) s

/-- `LEN274` (R227): length 43 to 50. -/
def execLen274 (e : BitVec 3) (d : DistPart) (s : State) : Host.Outcome State Fault Refusal := commit (lengthRule 274 3 (43 + e.toNat) d) s

/-- `LEN275` (R228): length 51 to 58. -/
def execLen275 (e : BitVec 3) (d : DistPart) (s : State) : Host.Outcome State Fault Refusal := commit (lengthRule 275 3 (51 + e.toNat) d) s

/-- `LEN276` (R229): length 59 to 66. -/
def execLen276 (e : BitVec 3) (d : DistPart) (s : State) : Host.Outcome State Fault Refusal := commit (lengthRule 276 3 (59 + e.toNat) d) s

/-- `LEN277` (R230): length 67 to 82. -/
def execLen277 (e : BitVec 4) (d : DistPart) (s : State) : Host.Outcome State Fault Refusal := commit (lengthRule 277 4 (67 + e.toNat) d) s

/-- `LEN278` (R231): length 83 to 98. -/
def execLen278 (e : BitVec 4) (d : DistPart) (s : State) : Host.Outcome State Fault Refusal := commit (lengthRule 278 4 (83 + e.toNat) d) s

/-- `LEN279` (R232): length 99 to 114. -/
def execLen279 (e : BitVec 4) (d : DistPart) (s : State) : Host.Outcome State Fault Refusal := commit (lengthRule 279 4 (99 + e.toNat) d) s

/-- `LEN280` (R233): length 115 to 130. -/
def execLen280 (e : BitVec 4) (d : DistPart) (s : State) : Host.Outcome State Fault Refusal := commit (lengthRule 280 4 (115 + e.toNat) d) s

/-- `LEN281` (R234): length 131 to 162. -/
def execLen281 (e : BitVec 5) (d : DistPart) (s : State) : Host.Outcome State Fault Refusal := commit (lengthRule 281 5 (131 + e.toNat) d) s

/-- `LEN282` (R235): length 163 to 194. -/
def execLen282 (e : BitVec 5) (d : DistPart) (s : State) : Host.Outcome State Fault Refusal := commit (lengthRule 282 5 (163 + e.toNat) d) s

/-- `LEN283` (R236): length 195 to 226. -/
def execLen283 (e : BitVec 5) (d : DistPart) (s : State) : Host.Outcome State Fault Refusal := commit (lengthRule 283 5 (195 + e.toNat) d) s

/-- `LEN284` (R237): length 227 to 258. -/
def execLen284 (e : BitVec 5) (d : DistPart) (s : State) : Host.Outcome State Fault Refusal := commit (lengthRule 284 5 (227 + e.toNat) d) s

/-- `LEN285` (R238): length 258. -/
def execLen285 (d : DistPart) (s : State) : Host.Outcome State Fault Refusal := commit (lengthRule 285 0 258 d) s

/-- `LL286` (R206): no meaning, a fault; no bit after the code is read. -/
def execLl286 (s : State) : Host.Outcome State Fault Refusal := commit (fun _ => .raise .invalidLengthSymbol) s

/-- `LL287` (R206): no meaning, a fault; no bit after the code is read. -/
def execLl287 (s : State) : Host.Outcome State Fault Refusal := commit (fun _ => .raise .invalidLengthSymbol) s

end Sys2Proof.Machine
end

