-- ==== Sys2Proof/Machine/Zlib.lean ====
section
/-! DEFINITION. The zlib container elements (46_zlib_wrapper). -/

namespace Sys2Proof.Machine

/-- `ZLIB_HDR` (R301): both bytes are read, then the four tests in the order of the pseudocode; `FLEVEL` is not examined
(R302). -/
def execZlibHdr (cmf flg : Byte) (s : State) : Host.Outcome State Fault Refusal :=
  commit (fun s =>
    if cmf.extractLsb' 0 4 ≠ 8 then .raise .zlibMethod
    else if 7 < (cmf.extractLsb' 4 4).toNat then .raise .zlibWindow
    else if (cmf.toNat * 256 + flg.toNat) % 31 ≠ 0 then .raise .zlibFcheck
    else if flg.getLsbD 5 then .raise .zlibPresetDict
    else .done { advanceAligned 16 s with wbits := cmf.extractLsb' 4 4 + 8, phase := .blockHdr }) s

/-- `ZLIB_TRAILER` (R303): the comparison is unconditional. -/
def execZlibTrailer (adler : BitVec 32) (s : State) : Host.Outcome State Fault Refusal :=
  commit (fun s =>
    if adler ≠ adler32 s then .raise .adler32
    else .done { advanceAligned 32 s with phase := .done }) s

end Sys2Proof.Machine
end

