-- ==== Sys2Proof/Machine/Dispatch.lean ====
section
/-! DEFINITION. One arm for each stream element, each a call of its meaning. `PHASE` is not tested here: it has selected the
element (log 11). -/

namespace Sys2Proof.Machine

def exec (i : Instr) (s : State) : Host.Outcome State Fault Refusal :=
  match i with
  | .zlibHdr cmf flg => Sys2Proof.Machine.execZlibHdr cmf flg s
  | .zlibTrailer adler => Sys2Proof.Machine.execZlibTrailer adler s
  | .gzipHdr id1 id2 cm flg mtime xfl os => Sys2Proof.Machine.execGzipHdr id1 id2 cm flg mtime xfl os s
  | .gzipExtra part => Sys2Proof.Machine.execGzipExtra part s
  | .gzipName b => Sys2Proof.Machine.execGzipName b s
  | .gzipComment b => Sys2Proof.Machine.execGzipComment b s
  | .gzipHcrc v => Sys2Proof.Machine.execGzipHcrc v s
  | .gzipTrailer crc isize => Sys2Proof.Machine.execGzipTrailer crc isize s
  | .blkStored final => Sys2Proof.Machine.execBlkStored final s
  | .blkFixed final => Sys2Proof.Machine.execBlkFixed final s
  | .blkDynamic final => Sys2Proof.Machine.execBlkDynamic final s
  | .blkReserved final => Sys2Proof.Machine.execBlkReserved final s
  | .storedHdr len nlen => Sys2Proof.Machine.execStoredHdr len nlen s
  | .storedByte b => Sys2Proof.Machine.execStoredByte b s
  | .dynHdr hlit hdist hclen => Sys2Proof.Machine.execDynHdr hlit hdist hclen s
  | .dynCllen v => Sys2Proof.Machine.execDynCllen v s
  | .clLen0 => Sys2Proof.Machine.execClLen0 s
  | .clLen1 => Sys2Proof.Machine.execClLen1 s
  | .clLen2 => Sys2Proof.Machine.execClLen2 s
  | .clLen3 => Sys2Proof.Machine.execClLen3 s
  | .clLen4 => Sys2Proof.Machine.execClLen4 s
  | .clLen5 => Sys2Proof.Machine.execClLen5 s
  | .clLen6 => Sys2Proof.Machine.execClLen6 s
  | .clLen7 => Sys2Proof.Machine.execClLen7 s
  | .clLen8 => Sys2Proof.Machine.execClLen8 s
  | .clLen9 => Sys2Proof.Machine.execClLen9 s
  | .clLen10 => Sys2Proof.Machine.execClLen10 s
  | .clLen11 => Sys2Proof.Machine.execClLen11 s
  | .clLen12 => Sys2Proof.Machine.execClLen12 s
  | .clLen13 => Sys2Proof.Machine.execClLen13 s
  | .clLen14 => Sys2Proof.Machine.execClLen14 s
  | .clLen15 => Sys2Proof.Machine.execClLen15 s
  | .clRep16 e => Sys2Proof.Machine.execClRep16 e s
  | .clZrep17 e => Sys2Proof.Machine.execClZrep17 e s
  | .clZrep18 e => Sys2Proof.Machine.execClZrep18 e s
  | .lit b => Sys2Proof.Machine.execLit b s
  | .eob => Sys2Proof.Machine.execEob s
  | .len257 d => Sys2Proof.Machine.execLen257 d s
  | .len258 d => Sys2Proof.Machine.execLen258 d s
  | .len259 d => Sys2Proof.Machine.execLen259 d s
  | .len260 d => Sys2Proof.Machine.execLen260 d s
  | .len261 d => Sys2Proof.Machine.execLen261 d s
  | .len262 d => Sys2Proof.Machine.execLen262 d s
  | .len263 d => Sys2Proof.Machine.execLen263 d s
  | .len264 d => Sys2Proof.Machine.execLen264 d s
  | .len265 e d => Sys2Proof.Machine.execLen265 e d s
  | .len266 e d => Sys2Proof.Machine.execLen266 e d s
  | .len267 e d => Sys2Proof.Machine.execLen267 e d s
  | .len268 e d => Sys2Proof.Machine.execLen268 e d s
  | .len269 e d => Sys2Proof.Machine.execLen269 e d s
  | .len270 e d => Sys2Proof.Machine.execLen270 e d s
  | .len271 e d => Sys2Proof.Machine.execLen271 e d s
  | .len272 e d => Sys2Proof.Machine.execLen272 e d s
  | .len273 e d => Sys2Proof.Machine.execLen273 e d s
  | .len274 e d => Sys2Proof.Machine.execLen274 e d s
  | .len275 e d => Sys2Proof.Machine.execLen275 e d s
  | .len276 e d => Sys2Proof.Machine.execLen276 e d s
  | .len277 e d => Sys2Proof.Machine.execLen277 e d s
  | .len278 e d => Sys2Proof.Machine.execLen278 e d s
  | .len279 e d => Sys2Proof.Machine.execLen279 e d s
  | .len280 e d => Sys2Proof.Machine.execLen280 e d s
  | .len281 e d => Sys2Proof.Machine.execLen281 e d s
  | .len282 e d => Sys2Proof.Machine.execLen282 e d s
  | .len283 e d => Sys2Proof.Machine.execLen283 e d s
  | .len284 e d => Sys2Proof.Machine.execLen284 e d s
  | .len285 d => Sys2Proof.Machine.execLen285 d s
  | .ll286 => Sys2Proof.Machine.execLl286 s
  | .ll287 => Sys2Proof.Machine.execLl287 s
  | .dist0 => Sys2Proof.Machine.execDist0 s
  | .dist1 => Sys2Proof.Machine.execDist1 s
  | .dist2 => Sys2Proof.Machine.execDist2 s
  | .dist3 => Sys2Proof.Machine.execDist3 s
  | .dist4 e => Sys2Proof.Machine.execDist4 e s
  | .dist5 e => Sys2Proof.Machine.execDist5 e s
  | .dist6 e => Sys2Proof.Machine.execDist6 e s
  | .dist7 e => Sys2Proof.Machine.execDist7 e s
  | .dist8 e => Sys2Proof.Machine.execDist8 e s
  | .dist9 e => Sys2Proof.Machine.execDist9 e s
  | .dist10 e => Sys2Proof.Machine.execDist10 e s
  | .dist11 e => Sys2Proof.Machine.execDist11 e s
  | .dist12 e => Sys2Proof.Machine.execDist12 e s
  | .dist13 e => Sys2Proof.Machine.execDist13 e s
  | .dist14 e => Sys2Proof.Machine.execDist14 e s
  | .dist15 e => Sys2Proof.Machine.execDist15 e s
  | .dist16 e => Sys2Proof.Machine.execDist16 e s
  | .dist17 e => Sys2Proof.Machine.execDist17 e s
  | .dist18 e => Sys2Proof.Machine.execDist18 e s
  | .dist19 e => Sys2Proof.Machine.execDist19 e s
  | .dist20 e => Sys2Proof.Machine.execDist20 e s
  | .dist21 e => Sys2Proof.Machine.execDist21 e s
  | .dist22 e => Sys2Proof.Machine.execDist22 e s
  | .dist23 e => Sys2Proof.Machine.execDist23 e s
  | .dist24 e => Sys2Proof.Machine.execDist24 e s
  | .dist25 e => Sys2Proof.Machine.execDist25 e s
  | .dist26 e => Sys2Proof.Machine.execDist26 e s
  | .dist27 e => Sys2Proof.Machine.execDist27 e s
  | .dist28 e => Sys2Proof.Machine.execDist28 e s
  | .dist29 e => Sys2Proof.Machine.execDist29 e s
  | .dist30 => Sys2Proof.Machine.execDist30 s
  | .dist31 => Sys2Proof.Machine.execDist31 s

end Sys2Proof.Machine
end

