-- ==== Sys2Proof/Machine/Window.lean ====
section
/-! DEFINITION. The COPY rule (42_sliding_window R163). It reads no input: it is no row of the opcode table, and `step` fires
it where `PHASE = COPY`. -/

namespace Sys2Proof.Machine

/-- COPY (R163): the distance check, the read, the write, one byte. The check comes before a hold for the sink, and so does
the read (log 3). -/
def execCopy (s : State) : Host.Outcome State Fault Refusal :=
  commit (fun s =>
    if s.total < s.mdist.toNat then .raise .invalidBackReference
    else
      match s.win.read (copyAddr s) with
      | none => .stop (.unwrittenCell (copyAddr s))
      | some b =>
        (emit b s).andThen fun t =>
          .done { t with mlen := t.mlen - 1, phase := if t.mlen - 1 = 0 then .symbol else t.phase }) s

end Sys2Proof.Machine
end

