-- ==== Sys2Proof/Machine/Fetch.lean ====
section
/-! DEFINITION. Fetching the element at `pc`, and what happens where there is none (10_state R24, R25; 40_bit_reader R121). -/

namespace Sys2Proof.Machine

/-- The element that `PHASE` and the input select (R25). -/
def fetch (s : State) : Read Instr := decode (decodeCtx s) (cursor s)

/-- No element was read: missing bits hold the rule, or raise `EOS` once the source has declared the end (R121); a walk that
met no code raises `InvalidHuffmanCode` (R145); in COPY the rule that fires reads no element (R163); in IDLE, DONE and ERROR
no rule fires (R24). -/
def notFetched (r : Reject) (s : State) : Host.Outcome State Fault Refusal :=
  match r with
  | .short => if s.inEos then .next (enterError .eos s) else .next s
  | .invalidCode => .next (enterError .invalidHuffmanCode s)
  | .noElement => if s.phase = .copy then execCopy s else .next s

end Sys2Proof.Machine
end

