-- ==== Sys2Proof/Machine/HostControl.lean ====
section
/-! DEFINITION. The steps of the host, the source and the sink (48_host_control), and hardware reset (70_reset_and_hazards).
A step whose agent is not enabled changes nothing (log 17). -/

namespace Sys2Proof.Machine

/-- Every piece of state the core owns at its reset value (R58). `WIN` is not cleared (R341); what the environment drives is
not the core's (log 16). -/
def resetCore (s : State) : State :=
  { State.reset with
    win := s.win
    cfgMode := s.cfgMode
    cfgWindowBits := s.cfgWindowBits
    cfgCheckCrc := s.cfgCheckCrc
    sinkReady := s.sinkReady
    pending := s.pending }

/-- `MODE <- cfg_mode` (R341); 3 is refused before it is looked at (R343). -/
def modeOf (m : BitVec 2) : Mode := if m = 0 then .raw else if m = 1 then .zlib else .gzip

/-- The phase an operation enters by (R341). -/
def entryPhase : Mode → Phase
  | .raw => .blockHdr
  | .zlib => .zlibHdr
  | .gzip => .gzipHdr

/-- The window size an operation starts with (R341). -/
def entryWbits (m : Mode) (cfg : BitVec 4) : BitVec 4 :=
  match m with
  | .raw => cfg
  | .zlib => Config.zlibStartWindowBits
  | .gzip => Config.gzipWindowBits

/-- `start` (R341); ignored while busy (R342) and refused when the configuration is illegal (R343). -/
def hostStart (s : State) : State :=
  if busy s || cfgInvalid s then s
  else
    { resetCore s with
      mode := modeOf s.cfgMode
      checkCrc := s.cfgCheckCrc
      wbits := entryWbits (modeOf s.cfgMode) s.cfgWindowBits
      phase := entryPhase (modeOf s.cfgMode) }

/-- `abort` (R345). -/
def hostAbort (s : State) : State := if busy s then { s with phase := .idle } else s

/-- Hardware reset, in any phase (R410). -/
def hardwareReset (s : State) : State := resetCore s

/-- The host drives the configuration ports; only `start` samples them (R341, R422 a). -/
def hostConfigure (mode : BitVec 2) (windowBits : BitVec 4) (checkCrc : Bool) (s : State) : State :=
  { s with cfgMode := mode, cfgWindowBits := windowBits, cfgCheckCrc := checkCrc }

/-- The source appends a byte (R348 a). -/
def sourceDeliver (b : Byte) (s : State) : State :=
  if sourceEnabled s then { s with input := s.input ++ [b] } else s

/-- The source declares the end (R348 b). -/
def sourceEnd (s : State) : State := if sourceEnabled s then { s with inEos := true } else s

/-- The sink becomes ready or not (R349). -/
def sinkSet (ready : Bool) (s : State) : State := { s with sinkReady := ready }

end Sys2Proof.Machine
end

