-- ==== Sys2Proof/Machine/CoreStep.lean ====
section
/-! DEFINITION. The step of the core and of each other agent (00_scope R7, R8). -/

namespace Sys2Proof.Machine

/-- One firing of the core (R8): the element at `pc` is run; where there is none, `notFetched` says what happens. -/
def coreStep (s : State) : Host.Outcome State Fault Refusal :=
  match fetch s with
  | .ok i _ => exec i s
  | .reject r => notFetched r s

/-- The step of one agent (R7). -/
def agentStep (a : AgentStep) (s : State) : Host.Outcome State Fault Refusal :=
  match a with
  | .core => coreStep s
  | .configure mode windowBits checkCrc => .next (hostConfigure mode windowBits checkCrc s)
  | .start => .next (hostStart s)
  | .abort => .next (hostAbort s)
  | .hardwareReset => .next (hardwareReset s)
  | .deliver b => .next (sourceDeliver b s)
  | .endInput => .next (sourceEnd s)
  | .sink ready => .next (sinkSet ready s)

/-- One step: the next agent of the schedule, or the core where the schedule is empty (log 1). -/
def stepAgents (s : State) : Host.Outcome State Fault Refusal :=
  match s.pending with
  | [] => coreStep s
  | a :: rest => agentStep a { s with pending := rest }

/-- The wrapper an operation that fetches a table row's word runs in (log 4). -/
def tableMode : Phase → Mode
  | .zlibHdr => .zlib
  | .gzipHdr => .gzip
  | _ => .raw

/-- A state whose next step fetches the table row's word (log 4): the operation has been started, the word's bytes have been
delivered, and no other agent moves before the core. -/
def placeTableWord (s : State) (nbits w : Nat) : State :=
  let p := (tablePhase nbits).getD .idle
  { s with input := tableInput nbits w, pc := 0, phase := p, mode := tableMode p, pending := [] }

end Sys2Proof.Machine
end

