-- ==== Sys2Proof/Machine/Step.lean ====
section
/-! DEFINITION. The step function, and where it fetches. -/

namespace Sys2Proof.Machine

/-- One step of the machine with its environment (R7, R8; log 1). -/
def step (s : State) : Host.Outcome State Fault Refusal := stepAgents s

/-- `s` with the instruction stored where `step` fetches its next one (log 4, log 5). -/
def State.withFetchWord (s : State) (nbits w : Nat) : State := placeTableWord s nbits w

end Sys2Proof.Machine
end

