-- ==== Sys2Proof/Machine/ReferenceEncoder.lean ====
section
/-! DEFINITION. The reference encoder of the test bench (49_reference_encoder R361, R363, R365). It is not hardware: `step`
does not depend on it (R360). -/

namespace Sys2Proof.Machine

/-- The Adler32 halves of a byte sequence (R280, R281, R282). -/
def adlerOf (bs : List Byte) : BitVec 16 × BitVec 16 := bs.foldl (fun p b => adlerStep p.1 p.2 b) (1, 0)

/-- The CRC32 of a byte sequence, in its finished form (R280, R285, R286). -/
def crcOf (bs : List Byte) : BitVec 32 := bs.foldl crcStep 0

/-- The two bytes of a 16-bit number, least significant first. -/
def leBytes16 (v : BitVec 16) : List Byte := [v.extractLsb' 0 8, v.extractLsb' 8 8]

/-- The four bytes of a 32-bit number, least significant first. -/
def leBytes32 (v : BitVec 32) : List Byte := [v.extractLsb' 0 8, v.extractLsb' 8 8, v.extractLsb' 16 8, v.extractLsb' 24 8]

/-- One stored block: `BFINAL` with `BTYPE = 0` and five zero pad bits, `LEN`, its complement, the bytes (R361). -/
def encBlock (final : Bool) (chunk : List Byte) : List Byte :=
  let len := BitVec.ofNat 16 chunk.length
  [if final then 1 else 0] ++ leBytes16 len ++ leBytes16 (~~~len) ++ chunk

/-- `n` full blocks of 65535 bytes, then the final one (R361). -/
def encBlocks : Nat → List Byte → List Byte
  | 0, b => encBlock true b
  | n + 1, b => encBlock false (b.take 65535) ++ encBlocks n (b.drop 65535)

/-- How many blocks come before the final one: `max(1, ceil(n / 65535)) - 1` (R361). -/
def encFullBlocks (b : List Byte) : Nat := (b.length - 1) / 65535

/-- `enc_deflate(b)` (R361). -/
def encDeflate (b : List Byte) : List Byte := encBlocks (encFullBlocks b) b

/-- `FLEVEL` (R363). -/
def encFlevel (level : Int) : Nat := if level ≤ 0 then 0 else if level < 6 then 1 else if level < 9 then 2 else 3

/-- `CMF` for a window size in 8 to 15 (R363). -/
def encCmf (wbits : Nat) : Nat := (wbits - 8) * 16 + 8

/-- `FCHECK`: the least value that satisfies the modulo-31 test (R363). -/
def encFcheck (cmf flevel : Nat) : Nat :=
  ((List.range 32).find? fun f => (cmf * 256 + flevel * 64 + f) % 31 = 0).getD 0

/-- The default of the encoder's `level` (R363, decision D27). -/
def encLevelDefault : Int := 6

/-- The default of the encoder's `wbits` (R363, decision D27). -/
def encWbitsDefault : Nat := 15

/-- `enc_zlib(b, level, wbits)`, with the defaults of R363: `encZlib b` is `enc_zlib(b, 6, 15)`. -/
def encZlib (b : List Byte) (level : Int := encLevelDefault) (wbits : Nat := encWbitsDefault) : List Byte :=
  let cmf := encCmf wbits
  let flg := encFlevel level * 64 + encFcheck cmf (encFlevel level)
  [BitVec.ofNat 8 cmf, BitVec.ofNat 8 flg] ++ encDeflate b
    ++ (leBytes16 (adlerOf b).2).reverse ++ (leBytes16 (adlerOf b).1).reverse

/-- The default of `ENC_XFL` (R365, decision D27). -/
def encXflDefault : Byte := 0

/-- The default of `ENC_OS` (R365, decision D27). -/
def encOsDefault : Byte := 0

/-- `enc_gzip(b)` (R365). `ENC_XFL` and `ENC_OS` are parameters of the test bench (decision D27, U22) with their defaults:
`encGzip b` writes 0 for both. -/
def encGzip (b : List Byte) (xfl : Byte := encXflDefault) (os : Byte := encOsDefault) : List Byte :=
  [0x1F, 0x8B, 0x08, 0x00, 0x00, 0x00, 0x00, 0x00, xfl, os] ++ encDeflate b ++ leBytes32 (crcOf b)
    ++ leBytes32 (BitVec.ofNat 32 b.length)

end Sys2Proof.Machine
end

