-- ==== Sys2Proof/Safety.lean ====
section
/-! DEFINITION. What holds of every state a run reaches, and the terms in which claims speak of a run. -/

namespace Sys2Proof.Machine

/-- The accumulators are functions of `OUT` (R42, R280, R289). -/
structure Accumulated (s : State) : Prop where
  total : s.total = s.output.length
  adler : (s.adlerA, s.adlerB) = adlerOf s.output
  crc : s.crc = crcOf s.output

/-- The window is a ring of the last `2^WBITS` bytes of `OUT` (R26, R40, R41, R65). `WBITS` moves only before the first byte
(R301). -/
structure WindowHolds (s : State) : Prop where
  form : s.win.wf = true
  wbits : 8 ≤ s.wbits.toNat
  total : s.total = s.output.length
  wpos : s.wpos.toNat = s.total % 2 ^ s.wbits.toNat
  header : s.phase = .zlibHdr → s.output = []
  cells : ∀ n, n < s.output.length → s.output.length ≤ n + 2 ^ s.wbits.toNat →
    s.win.read (BitVec.ofNat 15 (n % 2 ^ s.wbits.toNat)) = s.output[n]?

/-- The cursor stays within the input (R22). -/
def CursorBounded (s : State) : Prop := s.pc ≤ 8 * s.input.length

/-- The error registers say what `PHASE` says (R50, R376). -/
structure ErrorsMatch (s : State) : Prop where
  cls : s.errClass = subClass s.errSub
  phase : s.phase = .error ↔ s.errSub ≠ .none

/-- The ranges the registers have in the phases that read them (R29 to R32, R38, R179, R318). -/
structure PhaseRegisters (s : State) : Prop where
  storedCopy : s.phase = .storedCopy → s.slen ≠ 0 ∧ s.pc % 8 = 0
  counts : s.phase = .dynCllen ∨ s.phase = .dynLens →
    (257 ≤ s.hlit.toNat ∧ s.hlit.toNat ≤ 288) ∧ (1 ≤ s.hdist.toNat ∧ s.hdist.toNat ≤ 32) ∧
      (4 ≤ s.hclen.toNat ∧ s.hclen.toNat ≤ 19)
  dynCllen : s.phase = .dynCllen → s.clidx.toNat < s.hclen.toNat
  dynLens : s.phase = .dynLens → s.lidx.toNat < s.hlit.toNat + s.hdist.toNat
  copy : s.phase = .copy → (1 ≤ s.mlen.toNat ∧ s.mlen.toNat ≤ 258) ∧ (1 ≤ s.mdist.toNat ∧ s.mdist.toNat ≤ 32768)
  gzipHdr : s.phase = .gzipHdr → s.xlenValid = false
  gzipExtra : s.phase = .gzipExtra → s.xlenValid = true → s.xlen ≠ 0

/-- Each wrapper's phases occur in its own mode, and GZIP has the full window (R90, R324). -/
structure ModeMatches (s : State) : Prop where
  zlib : s.phase = .zlibHdr ∨ s.phase = .zlibTrailer → s.mode = .zlib
  gzip : s.phase = .gzipHdr ∨ s.phase = .gzipExtra ∨ s.phase = .gzipName ∨ s.phase = .gzipComment ∨ s.phase = .gzipHcrc
    ∨ s.phase = .gzipTrailer → s.mode = .gzip
  window : s.mode = .gzip → s.wbits = Config.gzipWindowBits

/-- The registers a back-reference has written when COPY comes next (R204): `bits` is what its element took, `len` its length,
`dist` its distance. -/
def matched (bits len dist : Nat) (s : State) : State :=
  { s with pc := s.pc + bits, mlen := BitVec.ofNat 9 len, mdist := BitVec.ofNat 16 dist, phase := .copy }

/-- The distance of a distance part, by the table `DIST_BASE` (R101). -/
def distanceOf (d : DistPart) : Nat := distBase.getD d.sym.toNat 0 + d.extra.toNat

/-- The bits of a distance part: its code and its extra bits (R205, R101). -/
def distanceBits (d : DistPart) (s : State) : Nat := dBits d.sym.toNat s + distExtraBits d.sym.toNat

/-- The bits of a back-reference with length symbol `c`, by the table `LEN_EXTRA` (R201). -/
def matchBits (c : Nat) (d : DistPart) (s : State) : Nat :=
  llBits c s + lenExtra.getD (c - 257) 0 + distanceBits d s

/-- The length of length symbol `c` with extra value `e`, by the table `LEN_BASE` (R100). -/
def lengthOf (c e : Nat) : Nat := lenBase.getD (c - 257) 0 + e

/-- The sub-causes the rule of a phase can raise (R377); every phase that reads input can also raise `EOS`. -/
def raisable : Phase → List ErrSub
  | .idle => []
  | .zlibHdr => [.eos, .zlibMethod, .zlibWindow, .zlibFcheck, .zlibPresetDict]
  | .gzipHdr => [.eos, .gzipMagic, .gzipMethod]
  | .gzipExtra => [.eos]
  | .gzipName => [.eos]
  | .gzipComment => [.eos]
  | .gzipHcrc => [.eos]
  | .blockHdr => [.eos, .blockType3]
  | .storedHdr => [.eos, .storedLenMismatch]
  | .storedCopy => [.eos]
  | .dynHdr => [.eos]
  | .dynCllen => [.eos]
  | .dynLens => [.eos, .invalidHuffmanCode, .repeatWithoutPrevious, .repeatOverrun]
  | .symbol => [.eos, .invalidHuffmanCode, .invalidLengthSymbol, .invalidDistanceSymbol]
  | .copy => [.invalidBackReference]
  | .zlibTrailer => [.eos, .adler32]
  | .gzipTrailer => [.eos, .crc32, .isize]
  | .done => []
  | .error => []

/-- The coded lengths after a coded-length element that gives `n` lengths `v` (R184). -/
def lensAfter (n : Nat) (v : BitVec 4) (s : State) : Vector (BitVec 4) 320 :=
  Vector.ofFn fun i => if s.lidx.toNat ≤ i.val ∧ i.val < s.lidx.toNat + n then v else s.lens[i]

/-- The state after a coded-length element of `bits` bits that gives `n` lengths `v`, more of them being due (R184). -/
def moreLengths (bits n : Nat) (v : BitVec 4) (s : State) : State :=
  { s with pc := s.pc + bits, lens := lensAfter n v s, lidx := s.lidx + BitVec.ofNat 9 n }

/-- The same where these were the last: the coded lengths are split into the two tables (R184, R189). -/
def lastLengths (bits n : Nat) (v : BitVec 4) (s : State) : State :=
  { moreLengths bits n v s with
    llLen := Vector.ofFn fun i => if i.val < s.hlit.toNat then (lensAfter n v s).toList.getD i.val 0 else 0
    dLen := Vector.ofFn fun i =>
      if i.val < s.hdist.toNat then (lensAfter n v s).toList.getD (s.hlit.toNat + i.val) 0 else 0
    phase := .symbol }

/-- How many coded lengths the dynamic header announces (R184). -/
def lengthsWanted (s : State) : Nat := s.hlit.toNat + s.hdist.toNat

/-- `n` steps, one after the other; a fault or a refusal ends them. -/
def steps : Nat → State → Host.Outcome State Fault Refusal
  | 0, s => .next s
  | n + 1, s =>
    match step s with
    | .next t => steps n t
    | .fault f => .fault f
    | .refused r => .refused r

/-- The operation of `input` that the host starts with these port levels on a machine right after reset, the whole input
being delivered and the sink taking every byte (R341, R348, R349). -/
def started (mode : BitVec 2) (windowBits : BitVec 4) (checkCrc : Bool) (input : List Byte) (eos : Bool) : State :=
  { hostStart (hostConfigure mode windowBits checkCrc State.reset) with
    input := input, inEos := eos, sinkReady := true, pending := [] }

/-- After some steps of the core the operation is DONE with this output, having read all of its input, without an error
(R366). -/
def Completes (s : State) (out : List Byte) : Prop :=
  ∃ n t, steps n s = .next t ∧ t.phase = .done ∧ t.output = out ∧ t.errClass = .none ∧ t.errSub = .none ∧
    (status t).inBytes = s.input.length

/-- An outcome with the window contents left out. -/
def withoutWindow : Host.Outcome State Fault Refusal → Host.Outcome State Fault Refusal
  | .next t => .next { t with win := [] }
  | .fault f => .fault f
  | .refused r => .refused r

/-- An outcome with more bytes delivered behind the input. -/
def withLaterBytes (bs : List Byte) : Host.Outcome State Fault Refusal → Host.Outcome State Fault Refusal
  | .next t => .next { t with input := t.input ++ bs }
  | .fault f => .fault f
  | .refused r => .refused r

end Sys2Proof.Machine
end

