-- ==== Sys2Proof/Certificates/Slice0/Obligations.lean ====
section
/-! DEFINITION. The statements. -/

open Sys2Proof Sys2Proof.Machine

/-- What reset and start leave (R58). Hardware reset in any state, and the state right after reset, have every register
at the value of R58's table; a start that is enabled puts all of them but MODE, CHECK_CRC, WBITS and PHASE, which
R341 then writes, at the same values. -/
def Obligations.ResetValues : Prop :=
  let table : State → Prop := fun t =>
      t.input = [] ∧
      t.inEos = false ∧
      t.output = [] ∧
      t.pc = 0 ∧
      t.bfinal = false ∧
      t.btype = 0 ∧
      t.slen = 0 ∧
      t.hlit = 0 ∧
      t.hdist = 0 ∧
      t.hclen = 0 ∧
      t.clidx = 0 ∧
      t.lidx = 0 ∧
      t.mlen = 0 ∧
      t.mdist = 0 ∧
      t.llLen = Vector.replicate 288 0 ∧
      t.dLen = Vector.replicate 32 0 ∧
      t.clLen = Vector.replicate 19 0 ∧
      t.lens = Vector.replicate 320 0 ∧
      t.wpos = 0 ∧
      t.total = 0 ∧
      t.adlerA = 1 ∧
      t.adlerB = 0 ∧
      t.crc = 0 ∧
      t.gflg = 0 ∧
      t.xlen = 0 ∧
      t.xlenValid = false ∧
      t.errClass = .none ∧
      t.errSub = .none
  (table State.reset ∧ State.reset.phase = .idle ∧ State.reset.mode = .raw ∧ State.reset.checkCrc = true ∧
      State.reset.wbits = 15) ∧
  (∀ s : State, table (hardwareReset s) ∧ (hardwareReset s).phase = .idle ∧ (hardwareReset s).mode = .raw ∧
      (hardwareReset s).checkCrc = true ∧ (hardwareReset s).wbits = 15) ∧
  ∀ s : State, busy s = false → cfgInvalid s = false → table (hostStart s)

/-- What start loads (R341, R26, R40). An enabled start answers the reset values with MODE, CHECK_CRC, WBITS and PHASE
loaded from the ports, WIN not cleared and the environment's own fields (the model's, log 16) untouched: one clause
for each legal cfg_mode. -/
def Obligations.StartOperation : Prop :=
  ∀ s : State, busy s = false →
    (s.cfgMode = 0 → 8 ≤ s.cfgWindowBits.toNat → agentStep .start s = .next { State.reset with
      mode := .raw, checkCrc := s.cfgCheckCrc, wbits := s.cfgWindowBits, phase := .blockHdr, win := s.win,
      cfgMode := s.cfgMode, cfgWindowBits := s.cfgWindowBits, cfgCheckCrc := s.cfgCheckCrc,
      sinkReady := s.sinkReady, pending := s.pending }) ∧
    (s.cfgMode = 1 → agentStep .start s = .next { State.reset with
      mode := .zlib, checkCrc := s.cfgCheckCrc, wbits := 15, phase := .zlibHdr, win := s.win,
      cfgMode := s.cfgMode, cfgWindowBits := s.cfgWindowBits, cfgCheckCrc := s.cfgCheckCrc,
      sinkReady := s.sinkReady, pending := s.pending }) ∧
    (s.cfgMode = 2 → agentStep .start s = .next { State.reset with
      mode := .gzip, checkCrc := s.cfgCheckCrc, wbits := 15, phase := .gzipHdr, win := s.win,
      cfgMode := s.cfgMode, cfgWindowBits := s.cfgWindowBits, cfgCheckCrc := s.cfgCheckCrc,
      sinkReady := s.sinkReady, pending := s.pending })

/-- When start does nothing (R342, R343). A start while busy changes no state; cfg_invalid is 1 exactly when cfg_mode is
3, or cfg_mode is RAW and cfg_window_bits is below 8; a start then changes no state, so PHASE and the error class
stay; in ZLIB and GZIP mode no configuration is illegal. -/
def Obligations.StartRefused : Prop :=
  ∀ s : State, (busy s = true → agentStep .start s = .next s) ∧
    (cfgInvalid s = true ↔ s.cfgMode = 3 ∨ (s.cfgMode = 0 ∧ s.cfgWindowBits.toNat < 8)) ∧
    (cfgInvalid s = true → agentStep .start s = .next s) ∧
    (s.cfgMode = 1 ∨ s.cfgMode = 2 → cfgInvalid s = false)

/-- What abort does (R345, R24). An abort while busy sets PHASE to IDLE and changes nothing else, so the error
registers and the emitted bytes stay, and ERR_CLASS is 0 where the error registers match the phase (the invariant
ErrorsMatch); where not busy it is ignored. After it no rule of the core fires (R24: none in IDLE); that the core's
step in IDLE answers the same state is the model's choice (DEDUCED, log 15), not a rule of the spec. -/
def Obligations.AbortOperation : Prop :=
  ∀ s : State,
    (busy s = true → agentStep .abort s = .next { s with phase := .idle } ∧
      coreStep { s with phase := .idle } = .next { s with phase := .idle } ∧
      (ErrorsMatch s → s.errClass = .none)) ∧
    (busy s = false → agentStep .abort s = .next s)

/-- What the source, the sink and the configuration ports change (R348, R349, R344, R422). While busy and before
IN_EOS the source appends one byte or sets IN_EOS. That a deliver or an endInput while not busy, or after IN_EOS,
changes nothing is the model's choice (DESIGN CHOICE, log 17): R348 says only that the source does neither while not
busy, and appends no byte after IN_EOS. The sink and the configuration ports change their own level only, whatever the
phase. -/
def Obligations.SourceSinkAndPorts : Prop :=
  ∀ (s : State) (b : Byte),
    (busy s = true → s.inEos = false → agentStep (.deliver b) s = .next { s with input := s.input ++ [b] } ∧
      agentStep .endInput s = .next { s with inEos := true }) ∧
    (busy s = false ∨ s.inEos = true → agentStep (.deliver b) s = .next s ∧ agentStep .endInput s = .next s) ∧
    (∀ r, agentStep (.sink r) s = .next { s with sinkReady := r }) ∧
    (∀ m w c, agentStep (.configure m w c) s =
      .next { s with cfgMode := m, cfgWindowBits := w, cfgCheckCrc := c })

/-- Only start and reset leave DONE and ERROR (R24, R346, R384, R410). In IDLE, DONE and ERROR the core's step answers
the same state: the spec says only that no rule fires there (R24), and this stutter is the model's choice (DEDUCED,
log 15). From DONE and ERROR every agent step but start and hardware reset leaves PHASE, OUT, pc and the error
registers as they are (a source step there changes nothing at all: log 17). From a busy phase no step but the core's,
an abort and a reset leaves the phase at all. -/
def Obligations.TerminalPhases : Prop :=
  (∀ s : State, s.phase = .idle ∨ s.phase = .done ∨ s.phase = .error → coreStep s = .next s) ∧
  (∀ (s t : State) (a : AgentStep), s.phase = .done ∨ s.phase = .error → a ≠ .start → a ≠ .hardwareReset →
    agentStep a s = .next t →
    t.phase = s.phase ∧ t.output = s.output ∧ t.pc = s.pc ∧ t.errClass = s.errClass ∧ t.errSub = s.errSub) ∧
  ∀ (s t : State) (a : AgentStep), busy s = true → a ≠ .core → a ≠ .abort → a ≠ .hardwareReset →
    agentStep a s = .next t → t.phase = s.phase

/-- What the host reads (R27, R24, R375, R376, R282). The status ports are the functions of the registers that R27
gives, with the numbers of R24, R375 and R376. -/
def Obligations.StatusPorts : Prop :=
  (∀ s : State, status s =
    { busy := decide (s.phase ≠ .idle ∧ s.phase ≠ .done ∧ s.phase ≠ .error), done := decide (s.phase = .done),
      error := decide (s.phase = .error), cfgInvalid := cfgInvalid s, phase := phaseCode s.phase,
      errClass := classCode s.errClass, errSub := subCode s.errSub,
      adler32 := (s.adlerB.setWidth 32 <<< 16) ||| s.adlerA.setWidth 32, crc32 := s.crc, totalOut := s.total,
      inBytes := (s.pc + 7) / 8, windowBits := s.wbits, bfinal := s.bfinal, btype := s.btype }) ∧
  [Phase.idle, .zlibHdr, .gzipHdr, .gzipExtra, .gzipName, .gzipComment, .gzipHcrc, .blockHdr, .storedHdr, .storedCopy,
    .dynHdr, .dynCllen, .dynLens, .symbol, .copy, .zlibTrailer, .gzipTrailer, .done, .error].map
      (fun p => (phaseCode p).toNat) = List.range 19 ∧
  [ErrSub.none, .zlibMethod, .zlibWindow, .zlibFcheck, .gzipMagic, .gzipMethod, .blockType3, .zlibPresetDict,
    .storedLenMismatch, .invalidHuffmanCode, .repeatWithoutPrevious, .repeatOverrun, .invalidLengthSymbol,
    .invalidDistanceSymbol, .invalidBackReference, .adler32, .crc32, .isize, .eos].map
      (fun e => ((subCode e).toNat, (classCode (subClass e)).toNat)) =
    [(0, 0), (1, 1), (2, 1), (3, 1), (4, 1), (5, 1), (6, 1), (7, 2), (8, 3), (9, 3), (10, 3), (11, 3), (12, 3), (13, 3),
      (14, 3), (15, 4), (16, 4), (17, 4), (18, 5)]

/-- A fault writes three registers and nothing else (R380, R381, R378). Where a firing of the core enters ERROR, the new
state is the old one with ERR_CLASS, ERR_SUB and PHASE written for some sub-cause: pc, the window, OUT and every
other register keep the values they had when the element began. -/
def Obligations.PreciseFaults : Prop :=
  ∀ s t : State, coreStep s = .next t → s.phase ≠ .error → t.phase = .error →
    ∃ e : ErrSub, e ≠ .none ∧ t = { s with errClass := subClass e, errSub := e, phase := .error }

/-- Which phase can raise which sub-cause (R377, R376). A firing of the core that enters ERROR raises a sub-cause that
R377 lists for the phase that fired. -/
def Obligations.FaultMatrix : Prop :=
  ∀ s t : State, coreStep s = .next t → s.phase ≠ .error → t.phase = .error → t.errSub ∈ raisable s.phase

/-- The elements whose effect is a fault (R176, R206, R207, R376, R380). BLK_RESERVED, LL286, LL287, DIST30 and DIST31
take the fault of their row, with nothing else changed; so does each of the 29 length elements whose distance symbol
is 30 or 31. -/
def Obligations.FaultElements : Prop :=
  ∀ (s : State) (final : Bool),
    exec (.blkReserved final) s = .next { s with errClass := .malformedHeader, errSub := .blockType3, phase := .error } ∧
    exec .ll286 s = .next { s with errClass := .streamCorruption, errSub := .invalidLengthSymbol, phase := .error } ∧
    exec .ll287 s = .next { s with errClass := .streamCorruption, errSub := .invalidLengthSymbol, phase := .error } ∧
    exec .dist30 s = .next { s with errClass := .streamCorruption, errSub := .invalidDistanceSymbol, phase := .error } ∧
    exec .dist31 s = .next { s with errClass := .streamCorruption, errSub := .invalidDistanceSymbol, phase := .error } ∧
    ∀ (d : DistPart) (e : BitVec 5), 30 ≤ d.sym.toNat →
      let t : Host.Outcome State Fault Refusal := .next { s with errClass := .streamCorruption, errSub := .invalidDistanceSymbol, phase := .error }
      exec (.len257 d) s = t ∧
      exec (.len258 d) s = t ∧
      exec (.len259 d) s = t ∧
      exec (.len260 d) s = t ∧
      exec (.len261 d) s = t ∧
      exec (.len262 d) s = t ∧
      exec (.len263 d) s = t ∧
      exec (.len264 d) s = t ∧
      exec (.len265 (e.setWidth 1) d) s = t ∧
      exec (.len266 (e.setWidth 1) d) s = t ∧
      exec (.len267 (e.setWidth 1) d) s = t ∧
      exec (.len268 (e.setWidth 1) d) s = t ∧
      exec (.len269 (e.setWidth 2) d) s = t ∧
      exec (.len270 (e.setWidth 2) d) s = t ∧
      exec (.len271 (e.setWidth 2) d) s = t ∧
      exec (.len272 (e.setWidth 2) d) s = t ∧
      exec (.len273 (e.setWidth 3) d) s = t ∧
      exec (.len274 (e.setWidth 3) d) s = t ∧
      exec (.len275 (e.setWidth 3) d) s = t ∧
      exec (.len276 (e.setWidth 3) d) s = t ∧
      exec (.len277 (e.setWidth 4) d) s = t ∧
      exec (.len278 (e.setWidth 4) d) s = t ∧
      exec (.len279 (e.setWidth 4) d) s = t ∧
      exec (.len280 (e.setWidth 4) d) s = t ∧
      exec (.len281 (e.setWidth 5) d) s = t ∧
      exec (.len282 (e.setWidth 5) d) s = t ∧
      exec (.len283 (e.setWidth 5) d) s = t ∧
      exec (.len284 (e.setWidth 5) d) s = t ∧
      exec (.len285 d) s = t

/-- ZLIB_HDR (R301, R302, R304, R385). A header with CM = 8, CINFO at most 7, the modulo-31 test met and FDICT = 0 sets
WBITS to CINFO + 8 and goes to BLOCK_HDR; otherwise the first failing test, in the order of R301, gives the fault. -/
def Obligations.ZlibHeader : Prop :=
  ∀ (s : State) (cmf flg : Byte),
    (cmf.toNat % 16 = 8 → cmf.toNat / 16 ≤ 7 → (cmf.toNat * 256 + flg.toNat) % 31 = 0 → flg.getLsbD 5 = false →
      exec (.zlibHdr cmf flg) s = .next { s with
        pc := alignUp s.pc + 16, wbits := BitVec.ofNat 4 (cmf.toNat / 16 + 8), phase := .blockHdr }) ∧
    (cmf.toNat % 16 ≠ 8 → exec (.zlibHdr cmf flg) s = .next { s with errClass := .malformedHeader, errSub := .zlibMethod, phase := .error }) ∧
    (cmf.toNat % 16 = 8 → 7 < cmf.toNat / 16 →
      exec (.zlibHdr cmf flg) s = .next { s with errClass := .malformedHeader, errSub := .zlibWindow, phase := .error }) ∧
    (cmf.toNat % 16 = 8 → cmf.toNat / 16 ≤ 7 → (cmf.toNat * 256 + flg.toNat) % 31 ≠ 0 →
      exec (.zlibHdr cmf flg) s = .next { s with errClass := .malformedHeader, errSub := .zlibFcheck, phase := .error }) ∧
    (cmf.toNat % 16 = 8 → cmf.toNat / 16 ≤ 7 → (cmf.toNat * 256 + flg.toNat) % 31 = 0 → flg.getLsbD 5 = true →
      exec (.zlibHdr cmf flg) s = .next { s with errClass := .unsupportedFeature, errSub := .zlibPresetDict, phase := .error })

/-- Which two-byte prefixes are accepted (R305). Every prefix that fails the modulo-31 test fails with class
MalformedHeader, whatever its other fields; the accepted ones are exactly those with CM = 8, CINFO at most 7, FDICT
= 0 and a number divisible by 31, and they are 32 of the 65536; those with WBITS 15 are 78 01, 78 5E, 78 9C and 78
DA. -/
def Obligations.ZlibPrefixes : Prop :=
  let prefixStep : Nat → State → Host.Outcome State Fault Refusal := fun w s =>
    exec (.zlibHdr (BitVec.ofNat 8 (w / 256)) (BitVec.ofNat 8 w)) s
  let good : Nat → Bool := fun w =>
    decide (w / 256 % 16 = 8 ∧ w / 4096 ≤ 7 ∧ w % 31 = 0 ∧ w / 32 % 2 = 0)
  (∀ w < 65536, ∀ s : State, w % 31 ≠ 0 →
    ∃ t, prefixStep w s = .next t ∧ t.phase = .error ∧ t.errClass = .malformedHeader) ∧
  (∀ w < 65536, ∀ s : State, (∃ t, prefixStep w s = .next t ∧ t.phase = .blockHdr) ↔ good w = true) ∧
  (List.range 65536).countP good = 32 ∧
  (List.range 65536).filter (fun w => good w && decide (w / 4096 + 8 = 15)) = [0x7801, 0x785E, 0x789C, 0x78DA]

/-- ZLIB_TRAILER (R303, R282, R344). A trailer equal to (ADLER_B << 16) | ADLER_A ends the operation in DONE; any other
faults with ChecksumMismatch(Adler32), whatever CHECK_CRC is. -/
def Obligations.ZlibTrailer : Prop :=
  ∀ (s : State) (v : BitVec 32),
    (v.toNat = s.adlerB.toNat * 65536 + s.adlerA.toNat →
      exec (.zlibTrailer v) s = .next { s with pc := alignUp s.pc + 32, phase := .done }) ∧
    (v.toNat ≠ s.adlerB.toNat * 65536 + s.adlerA.toNat →
      exec (.zlibTrailer v) s = .next { s with errClass := .checksumMismatch, errSub := .adler32, phase := .error })

/-- GZIP_HDR (R316, R106, R385). Ten bytes whose first three are 1F 8B 08 set GFLG and go to the first optional part
present; a wrong magic faults before a wrong method; mtime, XFL, OS and the other flag bits do not matter. -/
def Obligations.GzipHeader : Prop :=
  ∀ (s : State) (id1 id2 cm flg xfl os : Byte) (mtime : BitVec 32),
    (id1 = 0x1F → id2 = 0x8B → cm = 8 → exec (.gzipHdr id1 id2 cm flg mtime xfl os) s =
      .next { s with pc := alignUp s.pc + 80, gflg := flg, phase := gzAfterHdr flg }) ∧
    (id1 ≠ 0x1F ∨ id2 ≠ 0x8B → exec (.gzipHdr id1 id2 cm flg mtime xfl os) s =
      .next { s with errClass := .malformedHeader, errSub := .gzipMagic, phase := .error }) ∧
    (id1 = 0x1F → id2 = 0x8B → cm ≠ 8 → exec (.gzipHdr id1 id2 cm flg mtime xfl os) s =
      .next { s with errClass := .malformedHeader, errSub := .gzipMethod, phase := .error })

/-- The order of the optional gzip parts (R317). gz_next(p) is the first phase after p, in the order EXTRA, NAME,
COMMENT, HCRC, BLOCK_HDR, whose flag bit (2, 3, 4, 1, none) is set. -/
def Obligations.GzipPartOrder : Prop :=
  ∀ flg : Byte,
    let order : List (Phase × Bool) := [(.gzipExtra, flg.getLsbD 2), (.gzipName, flg.getLsbD 3),
      (.gzipComment, flg.getLsbD 4), (.gzipHcrc, flg.getLsbD 1), (.blockHdr, true)]
    let next : List (Phase × Bool) → Phase := fun parts => ((parts.find? (·.2)).map (·.1)).getD .blockHdr
    gzAfterHdr flg = next order ∧ gzAfterExtra flg = next (order.drop 1) ∧ gzAfterName flg = next (order.drop 2) ∧
      gzAfterComment flg = next (order.drop 3)

/-- GZIP_EXTRA, GZIP_NAME, GZIP_COMMENT, GZIP_HCRC (R318, R319, R320, R321, R322). Each part moves the cursor past its
bytes, keeps only XLEN and XLEN_VALID, and goes on when the length is used up, the byte is 0, or the two CRC bytes
are read. -/
def Obligations.GzipParts : Prop :=
  ∀ (s : State) (n v : BitVec 16) (b : Byte),
    (n ≠ 0 → exec (.gzipExtra (.lengthField n)) s =
      .next { s with pc := alignUp s.pc + 16, xlen := n, xlenValid := true }) ∧
    (n = 0 → exec (.gzipExtra (.lengthField n)) s =
      .next { s with pc := alignUp s.pc + 16, xlen := 0, xlenValid := true, phase := gzAfterExtra s.gflg }) ∧
    (1 < s.xlen.toNat → exec (.gzipExtra (.payload b)) s =
      .next { s with pc := alignUp s.pc + 8, xlen := BitVec.ofNat 16 (s.xlen.toNat - 1) }) ∧
    (s.xlen.toNat = 1 → exec (.gzipExtra (.payload b)) s =
      .next { s with pc := alignUp s.pc + 8, xlen := 0, phase := gzAfterExtra s.gflg }) ∧
    (b ≠ 0 → exec (.gzipName b) s = .next { s with pc := alignUp s.pc + 8 } ∧
      exec (.gzipComment b) s = .next { s with pc := alignUp s.pc + 8 }) ∧
    (b = 0 → exec (.gzipName b) s = .next { s with pc := alignUp s.pc + 8, phase := gzAfterName s.gflg } ∧
      exec (.gzipComment b) s = .next { s with pc := alignUp s.pc + 8, phase := gzAfterComment s.gflg }) ∧
    exec (.gzipHcrc v) s = .next { s with pc := alignUp s.pc + 16, phase := .blockHdr }

/-- GZIP_TRAILER (R323, R288, R385). With CHECK_CRC = 0, or with both words equal to CRC and TOTAL mod 2^32, the
operation ends in DONE; with CHECK_CRC = 1 a CRC that differs faults with Crc32, and otherwise a size that differs
with Isize. -/
def Obligations.GzipTrailer : Prop :=
  ∀ (s : State) (c n : BitVec 32),
    (s.checkCrc = false ∨ (c = s.crc ∧ n.toNat = s.total % 2 ^ 32) →
      exec (.gzipTrailer c n) s = .next { s with pc := alignUp s.pc + 64, phase := .done }) ∧
    (s.checkCrc = true → c ≠ s.crc → exec (.gzipTrailer c n) s = .next { s with errClass := .checksumMismatch, errSub := .crc32, phase := .error }) ∧
    (s.checkCrc = true → c = s.crc → n.toNat ≠ s.total % 2 ^ 32 →
      exec (.gzipTrailer c n) s = .next { s with errClass := .checksumMismatch, errSub := .isize, phase := .error })

/-- Flipping a bit of a gzip trailer that matches (R325). Where the trailer matches, flipping any one of its 64 bits
gives ChecksumMismatch when CHECK_CRC = 1 (Crc32 for a bit of the first word, Isize for one of the second) and DONE
when CHECK_CRC = 0; OUT is the same either way. -/
def Obligations.TrailerBitFlips : Prop :=
  ∀ (s : State) (c n : BitVec 32), c = s.crc → n.toNat = s.total % 2 ^ 32 → ∀ k < 64,
    let c' : BitVec 32 := if k < 32 then c ^^^ BitVec.ofNat 32 (2 ^ k) else c
    let n' : BitVec 32 := if k < 32 then n else n ^^^ BitVec.ofNat 32 (2 ^ (k - 32))
    ∃ t, exec (.gzipTrailer c' n') s = .next t ∧ t.output = s.output ∧
      (s.checkCrc = true → t.phase = .error ∧ t.errClass = .checksumMismatch ∧
        (k < 32 → t.errSub = .crc32) ∧ (32 ≤ k → t.errSub = .isize)) ∧
      (s.checkCrc = false → t = { s with pc := alignUp s.pc + 64, phase := .done })

/-- BLK_STORED, BLK_FIXED, BLK_DYNAMIC (R176, R103, R191). A block header takes 3 bits, writes BFINAL and BTYPE and goes
to the phase of its type; a fixed block also loads the constant code lengths. -/
def Obligations.BlockHeaders : Prop :=
  ∀ (s : State) (final : Bool),
    exec (.blkStored final) s = .next { s with pc := s.pc + 3, bfinal := final, btype := 0, phase := .storedHdr } ∧
    exec (.blkFixed final) s = .next { s with
      pc := s.pc + 3, bfinal := final, btype := 1, phase := .symbol
      llLen := Vector.ofFn fun k => if k.val ≤ 143 then 8 else if k.val ≤ 255 then 9 else if k.val ≤ 279 then 7 else 8
      dLen := Vector.ofFn fun _ => 5 } ∧
    exec (.blkDynamic final) s = .next { s with pc := s.pc + 3, bfinal := final, btype := 2, phase := .dynHdr }

/-- Where a block's end goes (R177). after_block() is BLOCK_HDR while BFINAL = 0, and DONE, ZLIB_TRAILER or GZIP_TRAILER
by MODE once BFINAL = 1; it is a function of those two registers, so it moves no cursor. -/
def Obligations.AfterBlock : Prop :=
  ∀ s : State,
    (s.bfinal = false → afterBlock s = .blockHdr) ∧
    (s.bfinal = true → s.mode = .raw → afterBlock s = .done) ∧
    (s.bfinal = true → s.mode = .zlib → afterBlock s = .zlibTrailer) ∧
    (s.bfinal = true → s.mode = .gzip → afterBlock s = .gzipTrailer) ∧
    ∀ t : State, t.bfinal = s.bfinal → t.mode = s.mode → afterBlock t = afterBlock s

/-- STORED_HDR (R178, R71, R376). LEN and NLEN that are each other's complement set SLEN and go to STORED_COPY, or past
the block when LEN = 0; any other pair faults with StoredLenMismatch. -/
def Obligations.StoredHeader : Prop :=
  ∀ (s : State) (len nlen : BitVec 16),
    (len ^^^ nlen = 0xFFFF → len ≠ 0 →
      exec (.storedHdr len nlen) s = .next { s with pc := alignUp s.pc + 32, slen := len, phase := .storedCopy }) ∧
    (len ^^^ nlen = 0xFFFF → len = 0 →
      exec (.storedHdr len nlen) s = .next { s with pc := alignUp s.pc + 32, slen := 0, phase := afterBlock s }) ∧
    (len ^^^ nlen ≠ 0xFFFF → exec (.storedHdr len nlen) s = .next { s with errClass := .streamCorruption, errSub := .storedLenMismatch, phase := .error })

/-- Emit (R161). Emit holds while the sink is not ready; otherwise it writes the byte to the cell at WPOS and to no
other, moves WPOS on round the ring, counts the byte, feeds both checksums and appends the byte to OUT; nothing else
changes. -/
def Obligations.EmitByte : Prop :=
  ∀ (s : State) (b : Byte),
    (s.sinkReady = false → emit b s = .hold) ∧
    (s.sinkReady = true → ∃ t, emit b s = .done t ∧
      t = { s with
        win := t.win, wpos := BitVec.ofNat 15 ((s.wpos.toNat + 1) % 2 ^ s.wbits.toNat), total := s.total + 1
        adlerA := (adlerStep s.adlerA s.adlerB b).1, adlerB := (adlerStep s.adlerA s.adlerB b).2
        crc := crcStep s.crc b, output := s.output ++ [b] } ∧
      t.win.read s.wpos = some b ∧ ∀ a : BitVec 15, a ≠ s.wpos → t.win.read a = s.win.read a)

/-- STORED_BYTE (R179, R161, R43). With the sink ready, a payload byte takes 8 bits, is emitted (EmitByte says what that
writes: the one cell at WPOS), and is counted off SLEN; the last one ends the block. -/
def Obligations.StoredByte : Prop :=
  ∀ (s : State) (b : Byte), s.sinkReady = true → s.slen ≠ 0 →
    (s.slen ≠ 1 → exec (.storedByte b) s = .next { emitted b s with pc := s.pc + 8, slen := s.slen - 1 }) ∧
    (s.slen = 1 → exec (.storedByte b) s =
      .next { emitted b s with pc := s.pc + 8, slen := 0, phase := afterBlock s }) ∧
    (emitted b s).win.read s.wpos = some b ∧
    ∀ a : BitVec 15, a ≠ s.wpos → (emitted b s).win.read a = s.win.read a

/-- DYN_HDR (R182, R94, R107). The three fields, with 257, 1 and 4 added, go to HLIT, HDIST and HCLEN without any range
check; the code-length lengths and CLIDX are cleared. -/
def Obligations.DynamicHeader : Prop :=
  ∀ (s : State) (l d : BitVec 5) (c : BitVec 4),
    exec (.dynHdr l d c) s = .next { s with
      pc := s.pc + 14, hlit := BitVec.ofNat 9 (l.toNat + 257), hdist := BitVec.ofNat 6 (d.toNat + 1)
      hclen := BitVec.ofNat 5 (c.toNat + 4), clLen := Vector.replicate 19 0, clidx := 0, phase := .dynCllen }

/-- DYN_CLLEN (R183, R94). The value goes to the entry CL_ORDER[CLIDX] and to no other; CLIDX moves on, and when it
reaches HCLEN, LIDX is cleared and the coded lengths begin. -/
def Obligations.CodeLengthLength : Prop :=
  ∀ (s : State) (v : BitVec 3) (h : s.clidx.toNat < clOrder.length),
    let cl : Vector (BitVec 3) 19 := Vector.ofFn fun k => if k.val = clOrder[s.clidx.toNat] then v else s.clLen[k]
    (s.clidx.toNat + 1 ≠ s.hclen.toNat → exec (.dynCllen v) s =
      .next { s with pc := s.pc + 3, clLen := cl, clidx := BitVec.ofNat 5 (s.clidx.toNat + 1) }) ∧
    (s.clidx.toNat + 1 = s.hclen.toNat → exec (.dynCllen v) s =
      .next { s with pc := s.pc + 3, clLen := cl, clidx := s.hclen, lidx := 0, phase := .dynLens })

/-- CL_LEN0 to CL_LEN15, CL_REP16, CL_ZREP17, CL_ZREP18 before the last length (R184, R185, R186, R187, R188, R99).
While lengths are still due after it, each coded-length element writes its value its count of times from LENS[LIDX]
on, moves LIDX by the count, and nothing else: one length for 0 to 15, the previous one 3 to 6 times for 16, zeros 3
to 10 and 11 to 138 times for 17 and 18. -/
def Obligations.CodedLengthsMore : Prop :=
  ∀ (s : State) (e2 : BitVec 2) (e3 : BitVec 3) (e7 : BitVec 7),
    (s.lidx.toNat + 1 < lengthsWanted s →
      exec .clLen0 s = .next (moreLengths (clBits 0 s) 1 0 s) ∧
      exec .clLen1 s = .next (moreLengths (clBits 1 s) 1 1 s) ∧
      exec .clLen2 s = .next (moreLengths (clBits 2 s) 1 2 s) ∧
      exec .clLen3 s = .next (moreLengths (clBits 3 s) 1 3 s) ∧
      exec .clLen4 s = .next (moreLengths (clBits 4 s) 1 4 s) ∧
      exec .clLen5 s = .next (moreLengths (clBits 5 s) 1 5 s) ∧
      exec .clLen6 s = .next (moreLengths (clBits 6 s) 1 6 s) ∧
      exec .clLen7 s = .next (moreLengths (clBits 7 s) 1 7 s) ∧
      exec .clLen8 s = .next (moreLengths (clBits 8 s) 1 8 s) ∧
      exec .clLen9 s = .next (moreLengths (clBits 9 s) 1 9 s) ∧
      exec .clLen10 s = .next (moreLengths (clBits 10 s) 1 10 s) ∧
      exec .clLen11 s = .next (moreLengths (clBits 11 s) 1 11 s) ∧
      exec .clLen12 s = .next (moreLengths (clBits 12 s) 1 12 s) ∧
      exec .clLen13 s = .next (moreLengths (clBits 13 s) 1 13 s) ∧
      exec .clLen14 s = .next (moreLengths (clBits 14 s) 1 14 s) ∧
      exec .clLen15 s = .next (moreLengths (clBits 15 s) 1 15 s)) ∧
    (s.lidx ≠ 0 → s.lidx.toNat + (3 + e2.toNat) < lengthsWanted s → exec (.clRep16 e2) s =
      .next (moreLengths (clBits 16 s + 2) (3 + e2.toNat) (s.lens.toList.getD (s.lidx.toNat - 1) 0) s)) ∧
    (s.lidx.toNat + (3 + e3.toNat) < lengthsWanted s → exec (.clZrep17 e3) s =
      .next (moreLengths (clBits 17 s + 3) (3 + e3.toNat) 0 s)) ∧
    (s.lidx.toNat + (11 + e7.toNat) < lengthsWanted s → exec (.clZrep18 e7) s =
      .next (moreLengths (clBits 18 s + 7) (11 + e7.toNat) 0 s))

/-- The same elements where they give the last length (R184, R185, R186, R187, R188, R189). Where the element completes
the HLIT + HDIST lengths, the sequence is also split: the first HLIT entries are LL_LEN, the next HDIST are D_LEN,
the rest of both is 0, and the symbols begin. -/
def Obligations.CodedLengthsLast : Prop :=
  ∀ (s : State) (e2 : BitVec 2) (e3 : BitVec 3) (e7 : BitVec 7),
    (s.lidx.toNat + 1 = lengthsWanted s →
      exec .clLen0 s = .next (lastLengths (clBits 0 s) 1 0 s) ∧
      exec .clLen1 s = .next (lastLengths (clBits 1 s) 1 1 s) ∧
      exec .clLen2 s = .next (lastLengths (clBits 2 s) 1 2 s) ∧
      exec .clLen3 s = .next (lastLengths (clBits 3 s) 1 3 s) ∧
      exec .clLen4 s = .next (lastLengths (clBits 4 s) 1 4 s) ∧
      exec .clLen5 s = .next (lastLengths (clBits 5 s) 1 5 s) ∧
      exec .clLen6 s = .next (lastLengths (clBits 6 s) 1 6 s) ∧
      exec .clLen7 s = .next (lastLengths (clBits 7 s) 1 7 s) ∧
      exec .clLen8 s = .next (lastLengths (clBits 8 s) 1 8 s) ∧
      exec .clLen9 s = .next (lastLengths (clBits 9 s) 1 9 s) ∧
      exec .clLen10 s = .next (lastLengths (clBits 10 s) 1 10 s) ∧
      exec .clLen11 s = .next (lastLengths (clBits 11 s) 1 11 s) ∧
      exec .clLen12 s = .next (lastLengths (clBits 12 s) 1 12 s) ∧
      exec .clLen13 s = .next (lastLengths (clBits 13 s) 1 13 s) ∧
      exec .clLen14 s = .next (lastLengths (clBits 14 s) 1 14 s) ∧
      exec .clLen15 s = .next (lastLengths (clBits 15 s) 1 15 s)) ∧
    (s.lidx ≠ 0 → s.lidx.toNat + (3 + e2.toNat) = lengthsWanted s → exec (.clRep16 e2) s =
      .next (lastLengths (clBits 16 s + 2) (3 + e2.toNat) (s.lens.toList.getD (s.lidx.toNat - 1) 0) s)) ∧
    (s.lidx.toNat + (3 + e3.toNat) = lengthsWanted s → exec (.clZrep17 e3) s =
      .next (lastLengths (clBits 17 s + 3) (3 + e3.toNat) 0 s)) ∧
    (s.lidx.toNat + (11 + e7.toNat) = lengthsWanted s → exec (.clZrep18 e7) s =
      .next (lastLengths (clBits 18 s + 7) (11 + e7.toNat) 0 s))

/-- When a coded-length element faults (R184, R186, R376, R385). Symbol 16 with no previous length faults with
RepeatWithoutPrevious; each of the 19 elements that would write past HLIT + HDIST faults with RepeatOverrun; nothing
else is written. -/
def Obligations.CodedLengthTraps : Prop :=
  ∀ (s : State) (e2 : BitVec 2) (e3 : BitVec 3) (e7 : BitVec 7),
    (s.lidx = 0 → exec (.clRep16 e2) s = .next { s with errClass := .streamCorruption, errSub := .repeatWithoutPrevious, phase := .error }) ∧
    (s.lidx ≠ 0 → lengthsWanted s < s.lidx.toNat + (3 + e2.toNat) → exec (.clRep16 e2) s =
      .next { s with errClass := .streamCorruption, errSub := .repeatOverrun, phase := .error }) ∧
    (lengthsWanted s < s.lidx.toNat + (3 + e3.toNat) → exec (.clZrep17 e3) s =
      .next { s with errClass := .streamCorruption, errSub := .repeatOverrun, phase := .error }) ∧
    (lengthsWanted s < s.lidx.toNat + (11 + e7.toNat) → exec (.clZrep18 e7) s =
      .next { s with errClass := .streamCorruption, errSub := .repeatOverrun, phase := .error }) ∧
    (lengthsWanted s < s.lidx.toNat + 1 →
      let t : Host.Outcome State Fault Refusal := .next { s with errClass := .streamCorruption, errSub := .repeatOverrun, phase := .error }
      exec .clLen0 s = t ∧
      exec .clLen1 s = t ∧
      exec .clLen2 s = t ∧
      exec .clLen3 s = t ∧
      exec .clLen4 s = t ∧
      exec .clLen5 s = t ∧
      exec .clLen6 s = t ∧
      exec .clLen7 s = t ∧
      exec .clLen8 s = t ∧
      exec .clLen9 s = t ∧
      exec .clLen10 s = t ∧
      exec .clLen11 s = t ∧
      exec .clLen12 s = t ∧
      exec .clLen13 s = t ∧
      exec .clLen14 s = t ∧
      exec .clLen15 s = t)

/-- LIT (R202, R161, R145). With the sink ready, a literal takes the bits of its code, is emitted (EmitByte says what
that writes: the one cell at WPOS), and PHASE stays. -/
def Obligations.Literal : Prop :=
  ∀ (s : State) (b : Byte), s.sinkReady = true →
    exec (.lit b) s = .next { emitted b s with pc := s.pc + llBits b.toNat s } ∧
    (emitted b s).win.read s.wpos = some b ∧
    ∀ a : BitVec 15, a ≠ s.wpos → (emitted b s).win.read a = s.win.read a

/-- EOB (R203, R177). Symbol 256 takes the bits of its code, emits nothing and goes where the block's end goes. -/
def Obligations.EndOfBlock : Prop :=
  ∀ s : State, exec .eob s = .next { s with pc := s.pc + llBits 256 s, phase := afterBlock s }

/-- LEN257 to LEN285 (R204, R100, R101, R201, R209). Each length element, with a distance part of symbol 0 to 29, sets
MLEN by the tables LEN_BASE and the extra bits, MDIST by DIST_BASE and the extra bits, takes the bits of the four
parts, and goes to COPY; nothing is emitted. -/
def Obligations.LengthSymbols : Prop :=
  ∀ (s : State) (d : DistPart) (e : BitVec 5), d.wellFormed = true → d.sym.toNat < 30 →
    exec (.len257 d) s =
      .next (matched (matchBits 257 d s) (lengthOf 257 0) (distanceOf d) s) ∧
    exec (.len258 d) s =
      .next (matched (matchBits 258 d s) (lengthOf 258 0) (distanceOf d) s) ∧
    exec (.len259 d) s =
      .next (matched (matchBits 259 d s) (lengthOf 259 0) (distanceOf d) s) ∧
    exec (.len260 d) s =
      .next (matched (matchBits 260 d s) (lengthOf 260 0) (distanceOf d) s) ∧
    exec (.len261 d) s =
      .next (matched (matchBits 261 d s) (lengthOf 261 0) (distanceOf d) s) ∧
    exec (.len262 d) s =
      .next (matched (matchBits 262 d s) (lengthOf 262 0) (distanceOf d) s) ∧
    exec (.len263 d) s =
      .next (matched (matchBits 263 d s) (lengthOf 263 0) (distanceOf d) s) ∧
    exec (.len264 d) s =
      .next (matched (matchBits 264 d s) (lengthOf 264 0) (distanceOf d) s) ∧
    exec (.len265 (e.setWidth 1) d) s =
      .next (matched (matchBits 265 d s) (lengthOf 265 (e.setWidth 1 : BitVec 1).toNat) (distanceOf d) s) ∧
    exec (.len266 (e.setWidth 1) d) s =
      .next (matched (matchBits 266 d s) (lengthOf 266 (e.setWidth 1 : BitVec 1).toNat) (distanceOf d) s) ∧
    exec (.len267 (e.setWidth 1) d) s =
      .next (matched (matchBits 267 d s) (lengthOf 267 (e.setWidth 1 : BitVec 1).toNat) (distanceOf d) s) ∧
    exec (.len268 (e.setWidth 1) d) s =
      .next (matched (matchBits 268 d s) (lengthOf 268 (e.setWidth 1 : BitVec 1).toNat) (distanceOf d) s) ∧
    exec (.len269 (e.setWidth 2) d) s =
      .next (matched (matchBits 269 d s) (lengthOf 269 (e.setWidth 2 : BitVec 2).toNat) (distanceOf d) s) ∧
    exec (.len270 (e.setWidth 2) d) s =
      .next (matched (matchBits 270 d s) (lengthOf 270 (e.setWidth 2 : BitVec 2).toNat) (distanceOf d) s) ∧
    exec (.len271 (e.setWidth 2) d) s =
      .next (matched (matchBits 271 d s) (lengthOf 271 (e.setWidth 2 : BitVec 2).toNat) (distanceOf d) s) ∧
    exec (.len272 (e.setWidth 2) d) s =
      .next (matched (matchBits 272 d s) (lengthOf 272 (e.setWidth 2 : BitVec 2).toNat) (distanceOf d) s) ∧
    exec (.len273 (e.setWidth 3) d) s =
      .next (matched (matchBits 273 d s) (lengthOf 273 (e.setWidth 3 : BitVec 3).toNat) (distanceOf d) s) ∧
    exec (.len274 (e.setWidth 3) d) s =
      .next (matched (matchBits 274 d s) (lengthOf 274 (e.setWidth 3 : BitVec 3).toNat) (distanceOf d) s) ∧
    exec (.len275 (e.setWidth 3) d) s =
      .next (matched (matchBits 275 d s) (lengthOf 275 (e.setWidth 3 : BitVec 3).toNat) (distanceOf d) s) ∧
    exec (.len276 (e.setWidth 3) d) s =
      .next (matched (matchBits 276 d s) (lengthOf 276 (e.setWidth 3 : BitVec 3).toNat) (distanceOf d) s) ∧
    exec (.len277 (e.setWidth 4) d) s =
      .next (matched (matchBits 277 d s) (lengthOf 277 (e.setWidth 4 : BitVec 4).toNat) (distanceOf d) s) ∧
    exec (.len278 (e.setWidth 4) d) s =
      .next (matched (matchBits 278 d s) (lengthOf 278 (e.setWidth 4 : BitVec 4).toNat) (distanceOf d) s) ∧
    exec (.len279 (e.setWidth 4) d) s =
      .next (matched (matchBits 279 d s) (lengthOf 279 (e.setWidth 4 : BitVec 4).toNat) (distanceOf d) s) ∧
    exec (.len280 (e.setWidth 4) d) s =
      .next (matched (matchBits 280 d s) (lengthOf 280 (e.setWidth 4 : BitVec 4).toNat) (distanceOf d) s) ∧
    exec (.len281 (e.setWidth 5) d) s =
      .next (matched (matchBits 281 d s) (lengthOf 281 (e.setWidth 5 : BitVec 5).toNat) (distanceOf d) s) ∧
    exec (.len282 (e.setWidth 5) d) s =
      .next (matched (matchBits 282 d s) (lengthOf 282 (e.setWidth 5 : BitVec 5).toNat) (distanceOf d) s) ∧
    exec (.len283 (e.setWidth 5) d) s =
      .next (matched (matchBits 283 d s) (lengthOf 283 (e.setWidth 5 : BitVec 5).toNat) (distanceOf d) s) ∧
    exec (.len284 (e.setWidth 5) d) s =
      .next (matched (matchBits 284 d s) (lengthOf 284 (e.setWidth 5 : BitVec 5).toNat) (distanceOf d) s) ∧
    exec (.len285 d) s =
      .next (matched (matchBits 285 d s) (lengthOf 285 0) (distanceOf d) s)

/-- DIST0 to DIST29 (R204, R205, R101). Each distance row, taken as an element of its own (the model's reading, log 13),
sets MDIST by DIST_BASE and the extra bits, takes the bits of its code and extra bits, and goes to COPY. -/
def Obligations.DistanceSymbols : Prop :=
  ∀ (s : State) (e : BitVec 13),
    let t : Nat → Nat → Host.Outcome State Fault Refusal := fun k x => .next { s with
      pc := s.pc + dBits k s + distExtra.getD k 0, mdist := BitVec.ofNat 16 (distBase.getD k 0 + x), phase := .copy }
    exec .dist0 s = t 0 0 ∧
    exec .dist1 s = t 1 0 ∧
    exec .dist2 s = t 2 0 ∧
    exec .dist3 s = t 3 0 ∧
    exec (.dist4 (e.setWidth 1)) s = t 4 ((e.setWidth 1 : BitVec 1).toNat) ∧
    exec (.dist5 (e.setWidth 1)) s = t 5 ((e.setWidth 1 : BitVec 1).toNat) ∧
    exec (.dist6 (e.setWidth 2)) s = t 6 ((e.setWidth 2 : BitVec 2).toNat) ∧
    exec (.dist7 (e.setWidth 2)) s = t 7 ((e.setWidth 2 : BitVec 2).toNat) ∧
    exec (.dist8 (e.setWidth 3)) s = t 8 ((e.setWidth 3 : BitVec 3).toNat) ∧
    exec (.dist9 (e.setWidth 3)) s = t 9 ((e.setWidth 3 : BitVec 3).toNat) ∧
    exec (.dist10 (e.setWidth 4)) s = t 10 ((e.setWidth 4 : BitVec 4).toNat) ∧
    exec (.dist11 (e.setWidth 4)) s = t 11 ((e.setWidth 4 : BitVec 4).toNat) ∧
    exec (.dist12 (e.setWidth 5)) s = t 12 ((e.setWidth 5 : BitVec 5).toNat) ∧
    exec (.dist13 (e.setWidth 5)) s = t 13 ((e.setWidth 5 : BitVec 5).toNat) ∧
    exec (.dist14 (e.setWidth 6)) s = t 14 ((e.setWidth 6 : BitVec 6).toNat) ∧
    exec (.dist15 (e.setWidth 6)) s = t 15 ((e.setWidth 6 : BitVec 6).toNat) ∧
    exec (.dist16 (e.setWidth 7)) s = t 16 ((e.setWidth 7 : BitVec 7).toNat) ∧
    exec (.dist17 (e.setWidth 7)) s = t 17 ((e.setWidth 7 : BitVec 7).toNat) ∧
    exec (.dist18 (e.setWidth 8)) s = t 18 ((e.setWidth 8 : BitVec 8).toNat) ∧
    exec (.dist19 (e.setWidth 8)) s = t 19 ((e.setWidth 8 : BitVec 8).toNat) ∧
    exec (.dist20 (e.setWidth 9)) s = t 20 ((e.setWidth 9 : BitVec 9).toNat) ∧
    exec (.dist21 (e.setWidth 9)) s = t 21 ((e.setWidth 9 : BitVec 9).toNat) ∧
    exec (.dist22 (e.setWidth 10)) s = t 22 ((e.setWidth 10 : BitVec 10).toNat) ∧
    exec (.dist23 (e.setWidth 10)) s = t 23 ((e.setWidth 10 : BitVec 10).toNat) ∧
    exec (.dist24 (e.setWidth 11)) s = t 24 ((e.setWidth 11 : BitVec 11).toNat) ∧
    exec (.dist25 (e.setWidth 11)) s = t 25 ((e.setWidth 11 : BitVec 11).toNat) ∧
    exec (.dist26 (e.setWidth 12)) s = t 26 ((e.setWidth 12 : BitVec 12).toNat) ∧
    exec (.dist27 (e.setWidth 12)) s = t 27 ((e.setWidth 12 : BitVec 12).toNat) ∧
    exec (.dist28 (e.setWidth 13)) s = t 28 ((e.setWidth 13 : BitVec 13).toNat) ∧
    exec (.dist29 (e.setWidth 13)) s = t 29 ((e.setWidth 13 : BitVec 13).toNat)

/-- COPY (R163, R161, R164). Where PHASE is COPY, a distance above TOTAL faults with InvalidBackReference; otherwise,
with the sink ready and the cell written, the byte of the cell at (WPOS - MDIST) mod 2^WBITS is emitted (EmitByte
says what that writes), MLEN counts down, and the last byte goes back to SYMBOL; no input is read. -/
def Obligations.CopyByte : Prop :=
  ∀ s : State, s.phase = .copy →
    (s.total < s.mdist.toNat → coreStep s = .next { s with errClass := .streamCorruption, errSub := .invalidBackReference, phase := .error }) ∧
    (s.mdist.toNat ≤ s.total → s.sinkReady = true → ∀ b, s.win.read (copyAddr s) = some b →
      (s.mlen ≠ 1 → coreStep s = .next { emitted b s with mlen := s.mlen - 1 }) ∧
      (s.mlen = 1 → coreStep s = .next { emitted b s with mlen := 0, phase := .symbol }) ∧
      (emitted b s).win.read s.wpos = some b ∧
      ∀ a : BitVec 15, a ≠ s.wpos → (emitted b s).win.read a = s.win.read a)

/-- What a back-reference reads (R163, R165, R167, R412, R65). The address (WPOS - MDIST) mod 2^WBITS is the low WBITS
bits of the two's-complement difference. In a state whose window holds the last 2^WBITS bytes of OUT, a distance D
from 1 to TOTAL reads the byte D mod 2^WBITS positions back, or 2^WBITS positions back where D is a multiple of the
capacity: never a cell that was not written, and the byte D positions back while D does not exceed the capacity. -/
def Obligations.CopyReadsTheWindow : Prop :=
  (∀ s : State, (copyAddr s).toNat = (s.wpos.setWidth 16 - s.mdist).toNat % 2 ^ s.wbits.toNat) ∧
  ∀ s : State, WindowHolds s → 1 ≤ s.mdist.toNat → s.mdist.toNat ≤ s.total →
    let cap := 2 ^ s.wbits.toNat
    let back := if s.mdist.toNat % cap = 0 then cap else s.mdist.toNat % cap
    (1 ≤ back ∧ back ≤ s.output.length ∧ s.win.read (copyAddr s) = s.output[s.output.length - back]?) ∧
    (s.mdist.toNat ≤ cap → back = s.mdist.toNat)

/-- A whole back-reference repeats the last bytes (R166, R163, R75, R430). From a state whose window holds the last
bytes of OUT, a back-reference of length L and distance D within TOTAL and the capacity takes L steps, appends the
last D bytes of OUT repeated cyclically to length L, reads no input and ends in SYMBOL. -/
def Obligations.CopyRun : Prop :=
  ∀ s : State, WindowHolds s → s.phase = .copy → s.pending = [] → s.sinkReady = true → 1 ≤ s.mlen.toNat →
    1 ≤ s.mdist.toNat → s.mdist.toNat ≤ s.total → s.mdist.toNat ≤ 2 ^ s.wbits.toNat →
    ∃ t, steps s.mlen.toNat s = .next t ∧ t.phase = .symbol ∧ t.mlen = 0 ∧ t.pc = s.pc ∧
      t.output = s.output ++ (List.range s.mlen.toNat).map fun i =>
        s.output.getD (s.output.length - s.mdist.toNat + i % s.mdist.toNat) 0

/-- A sink that is not ready holds the rule (R161, R349, R424). Where the sink is not ready, LIT, STORED_BYTE and a COPY
that would not fault answer the same state: no input is consumed for a byte that could not be emitted. -/
def Obligations.SinkNotReady : Prop :=
  ∀ s : State, s.sinkReady = false →
    (∀ b, exec (.lit b) s = .next s ∧ exec (.storedByte b) s = .next s) ∧
    (s.phase = .copy → s.mdist.toNat ≤ s.total → (s.win.read (copyAddr s)).isSome = true → coreStep s = .next s)

/-- A step runs the decoded element (R25, R8, R104). Where PHASE and the input at pc decode to an element, the core's
step is that element's meaning in the same state, and the machine's step is the core's where no other agent is due,
or where the core is (the schedule is the model's, log 1). -/
def Obligations.StepRunsDecoded : Prop :=
  ∀ (s : State) (i : Instr) (c : Cursor), decode (decodeCtx s) ⟨s.pc, (bitsOfBytes s.input).drop s.pc⟩ = .ok i c →
    coreStep s = exec i s ∧ (s.pending = [] → step s = exec i s) ∧
    ∀ rest, s.pending = .core :: rest → step s = exec i { s with pending := rest }

/-- Where no element can be read (R121, R126, R145, R424). Missing bits hold the core in the same state while IN_EOS = 0
and fault with EOS once it is 1; a walk that meets no code faults with InvalidHuffmanCode. -/
def Obligations.ShortInput : Prop :=
  ∀ s : State,
    (fetch s = .reject .short → s.inEos = false → coreStep s = .next s) ∧
    (fetch s = .reject .short → s.inEos = true → coreStep s = .next { s with errClass := .unexpectedEndOfStream, errSub := .eos, phase := .error }) ∧
    (fetch s = .reject .invalidCode → coreStep s = .next { s with errClass := .streamCorruption, errSub := .invalidHuffmanCode, phase := .error })

/-- pc moves by the bits the element has (R23, R22, R91). Where an element is fetched and its meaning does not fault,
with the sink ready, pc ends exactly where decoding ended. -/
def Obligations.PcFollowsTheBits : Prop :=
  ∀ (s t : State) (i : Instr) (c : Cursor), fetch s = .ok i c → exec i s = .next t → t.phase ≠ .error →
    s.sinkReady = true → t.pc = c.pos

/-- A firing does not depend on how the bytes arrive (R126, R9). Where the cursor is within the input and the core's
rule does not lack bits, delivering more bytes first gives the same outcome with those bytes behind the input. -/
def Obligations.LaterBytesDoNotMatter : Prop :=
  ∀ (s : State) (bs : List Byte), CursorBounded s → fetch s ≠ .reject .short →
    coreStep { s with input := s.input ++ bs } = withLaterBytes bs (coreStep s)

/-- TOTAL and the checksums are functions of OUT (R42, R44, R45, R280, R289). If TOTAL is the length of OUT and the
checksum registers are the Adler32 and CRC32 of OUT, they are so after every step of any agent. -/
def Obligations.StepKeepsAccumulators : Prop :=
  ∀ s t : State, Accumulated s → step s = .next t → Accumulated t

/-- The window is a ring of the last bytes of OUT (R41, R42, R65, R26). If the window is in canonical form, WBITS is at
least 8, WPOS is TOTAL mod 2^WBITS and each of the last 2^WBITS bytes of OUT stands in its cell, all of it holds
after every step of any agent. -/
def Obligations.StepKeepsWindow : Prop :=
  ∀ s t : State, WindowHolds s → step s = .next t → WindowHolds t

/-- The cursor stays within the input (R22, R23). If pc is at most 8 * |IN|, it is so after every step of any agent. -/
def Obligations.StepKeepsCursor : Prop :=
  ∀ s t : State, CursorBounded s → step s = .next t → CursorBounded t

/-- The registers of a phase are in range (R29, R30, R31, R32, R38, R179, R318). If SLEN, HLIT, HDIST, HCLEN, CLIDX,
LIDX, MLEN, MDIST and XLEN have the ranges of R29 to R32, R38, R179 and R318 in the phases that read them, they have
them after every step of any agent. -/
def Obligations.StepKeepsPhaseRegisters : Prop :=
  ∀ s t : State, PhaseRegisters s → step s = .next t → PhaseRegisters t

/-- The error registers, MODE and PHASE agree (R50, R376, R380, R26, R90, R324). If ERR_CLASS is the class of ERR_SUB
and PHASE is ERROR exactly when ERR_SUB is not 0, both hold after every step of any agent; and if the zlib phases
occur in ZLIB mode and the gzip phases in GZIP mode only, and GZIP mode has WBITS = 15, all of that holds after it. -/
def Obligations.StepKeepsErrorsAndModes : Prop :=
  ∀ s t : State, step s = .next t → (ErrorsMatch s → ErrorsMatch t) ∧ (ModeMatches s → ModeMatches t)

/-- The invariants hold after reset (R58, R22, R41, R42). The state right after reset meets all six invariants. -/
def Obligations.ResetMeetsInvariants : Prop :=
  Accumulated State.reset ∧ WindowHolds State.reset ∧ CursorBounded State.reset ∧ ErrorsMatch State.reset ∧
    PhaseRegisters State.reset ∧ ModeMatches State.reset

/-- The machine never stops (R412, R163, R424). In a state that meets the window and register invariants every step
answers a next state: the model's own fault, a read of an unwritten window cell (log 3), is never met, and nothing
is refused. -/
def Obligations.StepNeverStops : Prop :=
  ∀ s : State, WindowHolds s → PhaseRegisters s → ∃ t, step s = .next t

/-- What no element changes (R351, R62, R63, R23, R26). Every element of the opcode table leaves IN, IN_EOS, MODE,
CHECK_CRC, the ports and the schedule as they are, never moves pc back, appends at most one byte to OUT and rewrites
none, changes no window cell but the one at WPOS (none at all unless it is LIT or STORED_BYTE), and leaves WBITS
alone unless it is ZLIB_HDR. -/
def Obligations.ElementFrame : Prop :=
  ∀ (i : Instr) (s t : State), exec i s = .next t →
    t.input = s.input ∧ t.inEos = s.inEos ∧ t.mode = s.mode ∧ t.checkCrc = s.checkCrc ∧ t.cfgMode = s.cfgMode ∧
    t.cfgWindowBits = s.cfgWindowBits ∧ t.cfgCheckCrc = s.cfgCheckCrc ∧ t.sinkReady = s.sinkReady ∧
    t.pending = s.pending ∧ s.pc ≤ t.pc ∧ (t.output = s.output ∨ ∃ b, t.output = s.output ++ [b]) ∧
    (∀ a : BitVec 15, a ≠ s.wpos → t.win.read a = s.win.read a) ∧
    ((∀ b, i ≠ .lit b ∧ i ≠ .storedByte b) → t.output = s.output ∧ ∀ a, t.win.read a = s.win.read a) ∧
    ((∀ cmf flg, i ≠ .zlibHdr cmf flg) → t.wbits = s.wbits)

/-- Decoding an encoded element gives it back (R92, R93, R94, R95, R96, R97, R98, R99, R100, R101, R143). For every
well-formed element of a phase, at any bit position, with any code-length tables within their maximum lengths and
any bits behind it, decoding the element's encoding gives the element and stops after it. Pad bits are written 0 by
the encoder (the model's choice, log 14). -/
def Obligations.DecodeEncode : Prop :=
  ∀ (x : DecodeCtx) (pos : Nat) (i : Instr) (bits tail : List Bool),
    (∀ l ∈ x.cl, l ≤ Config.clMaxBits) → (∀ l ∈ x.ll, l ≤ Config.maxBits) → (∀ l ∈ x.dist, l ≤ Config.maxBits) →
    i.wellFormed = true → i.phase = some x.phase → encode x pos i = some bits →
    decode x ⟨pos, bits ++ tail⟩ = .ok i ⟨pos + bits.length, tail⟩

/-- Decoding an encoded distance row gives it back (R95, R101, R205, R207). The same for DIST0 to DIST31, which stand
inside a length element and are decoded as elements of their own (log 13). -/
def Obligations.DistanceDecodeEncode : Prop :=
  ∀ (x : DecodeCtx) (pos : Nat) (bits tail : List Bool) (e : BitVec 13), (∀ l ∈ x.dist, l ≤ Config.maxBits) →
    let rt : Instr → Prop := fun i => encode x pos i = some bits →
      decodeDistElement x ⟨pos, bits ++ tail⟩ = .ok i ⟨pos + bits.length, tail⟩
    rt .dist0 ∧
    rt .dist1 ∧
    rt .dist2 ∧
    rt .dist3 ∧
    rt (.dist4 (e.setWidth 1)) ∧
    rt (.dist5 (e.setWidth 1)) ∧
    rt (.dist6 (e.setWidth 2)) ∧
    rt (.dist7 (e.setWidth 2)) ∧
    rt (.dist8 (e.setWidth 3)) ∧
    rt (.dist9 (e.setWidth 3)) ∧
    rt (.dist10 (e.setWidth 4)) ∧
    rt (.dist11 (e.setWidth 4)) ∧
    rt (.dist12 (e.setWidth 5)) ∧
    rt (.dist13 (e.setWidth 5)) ∧
    rt (.dist14 (e.setWidth 6)) ∧
    rt (.dist15 (e.setWidth 6)) ∧
    rt (.dist16 (e.setWidth 7)) ∧
    rt (.dist17 (e.setWidth 7)) ∧
    rt (.dist18 (e.setWidth 8)) ∧
    rt (.dist19 (e.setWidth 8)) ∧
    rt (.dist20 (e.setWidth 9)) ∧
    rt (.dist21 (e.setWidth 9)) ∧
    rt (.dist22 (e.setWidth 10)) ∧
    rt (.dist23 (e.setWidth 10)) ∧
    rt (.dist24 (e.setWidth 11)) ∧
    rt (.dist25 (e.setWidth 11)) ∧
    rt (.dist26 (e.setWidth 12)) ∧
    rt (.dist27 (e.setWidth 12)) ∧
    rt (.dist28 (e.setWidth 13)) ∧
    rt (.dist29 (e.setWidth 13)) ∧
    rt .dist30 ∧
    rt .dist31

/-- Decoding gives well-formed elements of the phase (R104, R101, R25). Whatever the bits and the tables, an element
that decoding answers is well formed and belongs to the phase that selected it. -/
def Obligations.DecodeWellFormed : Prop :=
  ∀ (x : DecodeCtx) (c c' : Cursor) (i : Instr), decode x c = .ok i c' → i.wellFormed = true ∧ i.phase = some x.phase

/-- A walk meets a symbol exactly where its code stands (R142, R143, R144, R145, R146). For every list of code lengths
within the maximum, complete or not, over-subscribed or not: a symbol's code decodes to it whatever follows, and a
walk that answers a symbol has consumed exactly that symbol's code. -/
def Obligations.SymbolsAndCodes : Prop :=
  ∀ (L : List Nat) (m : Nat), (∀ l ∈ L, l ≤ m) →
    (∀ (k pos : Nat) (bits tail : List Bool), codeBits L k = some bits →
      decodeSym L m ⟨pos, bits ++ tail⟩ = .ok k ⟨pos + bits.length, tail⟩) ∧
    ∀ (k : Nat) (c c' : Cursor), decodeSym L m c = .ok k c' →
      ∃ bits, codeBits L k = some bits ∧ c.rest = bits ++ c'.rest ∧ c'.pos = c.pos + bits.length

/-- The codes of a fixed block (R103). With the lengths of a fixed block the canonical construction gives 0x30 + s in 8
bits to 0..143, 0x190 + (s - 144) in 9 bits to 144..255, s - 256 in 7 bits to 256..279, 0xC0 + (s - 280) in 8 bits
to 280..287, and d in 5 bits to each distance symbol; the lengths are those of the rule. -/
def Obligations.FixedCodes : Prop :=
  (∀ k < 288, (fixedLlLen k).toNat = (if k ≤ 143 then 8 else if k ≤ 255 then 9 else if k ≤ 279 then 7 else 8) ∧
    codeOf (lengthsOf (vecOf 288 fixedLlLen)) k =
      if k ≤ 143 then some (8, 0x30 + k) else if k ≤ 255 then some (9, 0x190 + (k - 144))
      else if k ≤ 279 then some (7, k - 256) else some (8, 0xC0 + (k - 280))) ∧
  ∀ d < 32, (fixedDLen d).toNat = 5 ∧ codeOf (lengthsOf (vecOf 32 fixedDLen)) d = some (5, d)

/-- Tables with one symbol or none (R147). One symbol of length n: its code is n zero bits, which decode it; any other n
bits fail with InvalidHuffmanCode after the maximum length. No symbol: every walk of the maximum length fails so. -/
def Obligations.DegenerateTables : Prop :=
  ∀ (size m : Nat) (bits tail : List Bool) (pos : Nat),
    (∀ k n, k < size → 1 ≤ n → n ≤ m →
      decodeSym ((List.replicate size 0).set k n) m ⟨pos, List.replicate n false ++ tail⟩ = .ok k ⟨pos + n, tail⟩ ∧
      (bits.length = m → bits.take n ≠ List.replicate n false →
        decodeSym ((List.replicate size 0).set k n) m ⟨pos, bits ++ tail⟩ = .reject .invalidCode)) ∧
    (bits.length = m → decodeSym (List.replicate size 0) m ⟨pos, bits ++ tail⟩ = .reject .invalidCode)

/-- Adler32 in closed form (R282). Folded over the bytes d_1..d_n from the start value, A is (1 + the sum of d_i) mod
65521 and B is (n + the sum of (n - i + 1) * d_i) mod 65521; the Adler32 of a state is B in the high half and A in
the low; that of no bytes is 1. -/
def Obligations.AdlerClosedForm : Prop :=
  (∀ bs : List Byte,
    (adlerOf bs).1.toNat = (1 + (bs.map fun b => b.toNat).sum) % 65521 ∧
    (adlerOf bs).2.toNat =
      (bs.length + ((List.range bs.length).map fun i => (bs.length - i) * (bs.getD i 0).toNat).sum) % 65521) ∧
  (∀ s : State, (adler32 s).toNat = s.adlerB.toNat * 2 ^ 16 + s.adlerA.toNat) ∧
  adlerOf [] = (1, 0) ∧ adler32 State.reset = 0x00000001

/-- CRC32 step by step and by table (R286). crc_step is the eight-fold shift of R286 between two complements; the table-
driven form, with T[i] the value after eight shifts from i, gives the same; from C = 0 the byte 0x61 gives
0xE8B7BE43. -/
def Obligations.CrcTableForm : Prop :=
  let shift : BitVec 32 → BitVec 32 := fun c => if c.getLsbD 0 then (c >>> 1) ^^^ 0xEDB88320 else c >>> 1
  (∀ (c : BitVec 32) (b : Byte),
    crcStep c b = (shift (shift (shift (shift (shift (shift (shift (shift
      ((c ^^^ 0xFFFFFFFF) ^^^ b.setWidth 32))))))))) ^^^ 0xFFFFFFFF ∧
    let r := c ^^^ 0xFFFFFFFF
    let i := (r ^^^ b.setWidth 32) &&& 0xFF
    crcStep c b = (crcShift 8 i ^^^ (r >>> 8)) ^^^ 0xFFFFFFFF) ∧
  crcStep 0 0x61 = 0xE8B7BE43

/-- The core decodes the reference encoder's stored blocks (R362). For every byte sequence b and every raw window size 8
to 15, the operation on enc_deflate(b) passes only through the phases BLOCK_HDR, STORED_HDR and STORED_COPY and ends
in DONE with OUT = b and pc = 8 * (n + 5k), k being the number of blocks. -/
def Obligations.EncoderRawRun : Prop :=
  ∀ (b : List Byte) (w : BitVec 4) (c eos : Bool), 8 ≤ w.toNat →
    ∃ n t, steps n (started 0 w c (encDeflate b) eos) = .next t ∧ t.phase = .done ∧ t.output = b ∧
      t.pc = 8 * (b.length + 5 * max 1 ((b.length + 65534) / 65535)) ∧
      ∀ m < n, ∃ u, steps m (started 0 w c (encDeflate b) eos) = .next u ∧
        (u.phase = .blockHdr ∨ u.phase = .storedHdr ∨ u.phase = .storedCopy)

/-- The core inverts the reference encoder in all three modes (R366). For every byte sequence b: RAW mode on
enc_deflate(b), ZLIB mode on enc_zlib(b, level, wbits) for every level and every wbits in 8 to 15, and GZIP mode on
enc_gzip(b), with CHECK_CRC 0 or 1 and whatever the open bytes XFL and OS are, each reach DONE with OUT = b, no
error, and in_bytes equal to the length of the input. -/
def Obligations.EncoderRoundTrip : Prop :=
  ∀ (b : List Byte) (c eos : Bool) (cfg : BitVec 4),
    (8 ≤ cfg.toNat → Completes (started 0 cfg c (encDeflate b) eos) b) ∧
    (∀ (level : Int) (wbits : Nat), 8 ≤ wbits → wbits ≤ 15 → Completes (started 1 cfg c (encZlib b level wbits) eos) b) ∧
    ∀ xfl os : Byte, Completes (started 2 cfg c (encGzip b xfl os) eos) b

/-- Nothing of an earlier operation reaches the next one (R411, R412, R384). Two machines that are not busy, whatever
came before on each, with the same legal ports and the same sink: after a start, along any schedule of the agents
and for any number of steps, their states differ in the window contents at most. -/
def Obligations.StaleWindowNeverShows : Prop :=
  ∀ (s u : State) (sched : List AgentStep) (n : Nat), s.win.wf = true → u.win.wf = true → busy s = false →
    busy u = false → cfgInvalid s = false → s.cfgMode = u.cfgMode → s.cfgWindowBits = u.cfgWindowBits →
    s.cfgCheckCrc = u.cfgCheckCrc → s.sinkReady = u.sinkReady →
    withoutWindow (steps n { hostStart s with pending := sched }) =
      withoutWindow (steps n { hostStart u with pending := sched })

/-- A few words read from the spec's encodings (R92, R93, R94, R96, R98, R103). Stream bits written out from the spec's
formats decode to the elements they stand for: the zlib header 78 9C, a final fixed block header, a dynamic header
of 286, 30 and 18, a stored header of length 5, the literal 0x61 and the end of block in a fixed block. -/
def Obligations.DecodedWords : Prop :=
  let fixed : Phase → DecodeCtx := fun p =>
    ⟨p, false, false, [], lengthsOf (vecOf 288 fixedLlLen), lengthsOf (vecOf 32 fixedDLen)⟩
  decode (fixed .zlibHdr) ⟨0, bitsOfBytes [0x78, 0x9C]⟩ = .ok (.zlibHdr 0x78 0x9C) ⟨16, []⟩ ∧
  decode (fixed .blockHdr) ⟨0, [true, true, false]⟩ = .ok (.blkFixed true) ⟨3, []⟩ ∧
  decode (fixed .dynHdr) ⟨0, [true, false, true, true, true, true, false, true, true, true, false, true, true, true]⟩ =
    .ok (.dynHdr 29 29 14) ⟨14, []⟩ ∧
  decode (fixed .storedHdr) ⟨3, [false, false, false, false, false] ++ bitsOfBytes [0x05, 0x00, 0xFA, 0xFF]⟩ =
    .ok (.storedHdr 5 0xFFFA) ⟨40, []⟩ ∧
  decode (fixed .symbol) ⟨3, [true, false, false, true, false, false, false, true]⟩ = .ok (.lit 0x61) ⟨11, []⟩ ∧
  decode (fixed .symbol) ⟨11, [false, false, false, false, false, false, false]⟩ = .ok .eob ⟨18, []⟩
end

