-- ==== Sys2Proof/Laws/BitReader.lean ====
section
/-! SUPPORT. The bit reader: sizes, alignment, and reading back what was written. -/

namespace Sys2Proof.Machine

@[simp] theorem bind_ok {α β : Type} (a : α) (c : Cursor) (f : α → Cursor → Read β) : (Read.ok a c).bind f = f a c := rfl
@[simp] theorem bind_reject {α β : Type} (e : Reject) (f : α → Cursor → Read β) :
    (Read.reject e : Read α).bind f = .reject e := rfl

/-- Reads in sequence succeed when each does. -/
theorem bind_eq_ok {α β : Type} {r : Read α} {f : α → Cursor → Read β} {b : β} {c : Cursor} (h : r.bind f = .ok b c) :
    ∃ a c', r = .ok a c' ∧ f a c' = .ok b c := by
  cases r with
  | ok a c' => exact ⟨a, c', rfl, h⟩
  | reject e => cases h

@[simp] theorem length_bitsOfByte (b : Byte) : (bitsOfByte b).length = 8 := by simp [bitsOfByte]

@[simp] theorem length_bitsOfBytes (bs : List Byte) : (bitsOfBytes bs).length = 8 * bs.length := by
  induction bs with
  | nil => rfl
  | cons b bs ih =>
    simp only [bitsOfBytes, List.flatMap_cons, List.length_append, length_bitsOfByte, List.length_cons] at *
    omega

theorem bitsOfBytes_append (as bs : List Byte) : bitsOfBytes (as ++ bs) = bitsOfBytes as ++ bitsOfBytes bs := by
  simp [bitsOfBytes]

@[simp] theorem length_lsbBits {n : Nat} (v : BitVec n) : (lsbBits v).length = n := by simp [lsbBits]

/-- Rounding up to a byte boundary (R123). -/
theorem alignUp_spec (pos : Nat) : pos ≤ alignUp pos ∧ alignUp pos < pos + 8 ∧ alignUp pos % 8 = 0 := by
  unfold alignUp
  omega

/-- An aligned cursor does not move (R123, decision D14). -/
theorem alignUp_aligned {pos : Nat} (h : pos % 8 = 0) : alignUp pos = pos := by
  unfold alignUp
  omega

/-- A read takes its bits from the front, or is short (R121). -/
theorem readBits_cases (n : Nat) (c : Cursor) :
    (n ≤ c.rest.length ∧ readBits n c = .ok (BitVec.ofNat n (lsbValue (c.rest.take n))) ⟨c.pos + n, c.rest.drop n⟩) ∨
    (c.rest.length < n ∧ readBits n c = .reject .short) := by
  unfold readBits
  by_cases h : n ≤ c.rest.length
  · exact Or.inl ⟨h, by simp [h]⟩
  · exact Or.inr ⟨by omega, by simp [h]⟩

/-- No bits are always there (decision D15). -/
theorem readBits_zero (c : Cursor) : readBits 0 c = .ok 0 c := by
  cases c
  simp [readBits, lsbValue]

theorem lsbValue_testBit (bs : List Bool) (i : Nat) : (lsbValue bs).testBit i = bs.getD i false := by
  induction bs generalizing i with
  | nil => simp [lsbValue]
  | cons b bs ih =>
    cases i with
    | zero =>
      simp only [lsbValue, Nat.testBit_zero, List.getD_cons_zero]
      cases b <;> simp [Nat.add_mod]
    | succ i =>
      have : (b.toNat + 2 * lsbValue bs) / 2 = lsbValue bs := by
        have := b.toNat_lt
        omega
      simp only [lsbValue, Nat.testBit_succ, this, ih, List.getD_cons_succ]

/-- The bits of a value, read back, are the value (R67). -/
theorem ofNat_lsbValue_lsbBits {n : Nat} (v : BitVec n) : BitVec.ofNat n (lsbValue (lsbBits v)) = v := by
  apply BitVec.eq_of_getLsbD_eq
  intro i hi
  rw [BitVec.getLsbD_ofNat, lsbValue_testBit]
  simp [lsbBits, hi]

/-- Reading a value's bits gives the value and stops after them (R121, R67). -/
theorem readBits_lsbBits {n : Nat} (v : BitVec n) (pos : Nat) (rest : List Bool) :
    readBits n ⟨pos, lsbBits v ++ rest⟩ = .ok v ⟨pos + n, rest⟩ := by
  simp [readBits, ofNat_lsbValue_lsbBits]

end Sys2Proof.Machine
end

