-- ==== Sys2Proof/Laws/State.lean ====
section
/-! SUPPORT. One lemma for each field of each shared update, so that no later proof unfolds a record update. -/

namespace Sys2Proof.Machine

@[simp] theorem advance_input (n : Nat) (s : State) : (advance n s).input = s.input := rfl
@[simp] theorem advance_inEos (n : Nat) (s : State) : (advance n s).inEos = s.inEos := rfl
@[simp] theorem advance_output (n : Nat) (s : State) : (advance n s).output = s.output := rfl
@[simp] theorem advance_pc (n : Nat) (s : State) : (advance n s).pc = s.pc + n := rfl
@[simp] theorem advance_phase (n : Nat) (s : State) : (advance n s).phase = s.phase := rfl
@[simp] theorem advance_mode (n : Nat) (s : State) : (advance n s).mode = s.mode := rfl
@[simp] theorem advance_checkCrc (n : Nat) (s : State) : (advance n s).checkCrc = s.checkCrc := rfl
@[simp] theorem advance_wbits (n : Nat) (s : State) : (advance n s).wbits = s.wbits := rfl
@[simp] theorem advance_bfinal (n : Nat) (s : State) : (advance n s).bfinal = s.bfinal := rfl
@[simp] theorem advance_btype (n : Nat) (s : State) : (advance n s).btype = s.btype := rfl
@[simp] theorem advance_slen (n : Nat) (s : State) : (advance n s).slen = s.slen := rfl
@[simp] theorem advance_hlit (n : Nat) (s : State) : (advance n s).hlit = s.hlit := rfl
@[simp] theorem advance_hdist (n : Nat) (s : State) : (advance n s).hdist = s.hdist := rfl
@[simp] theorem advance_hclen (n : Nat) (s : State) : (advance n s).hclen = s.hclen := rfl
@[simp] theorem advance_clidx (n : Nat) (s : State) : (advance n s).clidx = s.clidx := rfl
@[simp] theorem advance_lidx (n : Nat) (s : State) : (advance n s).lidx = s.lidx := rfl
@[simp] theorem advance_llLen (n : Nat) (s : State) : (advance n s).llLen = s.llLen := rfl
@[simp] theorem advance_dLen (n : Nat) (s : State) : (advance n s).dLen = s.dLen := rfl
@[simp] theorem advance_clLen (n : Nat) (s : State) : (advance n s).clLen = s.clLen := rfl
@[simp] theorem advance_lens (n : Nat) (s : State) : (advance n s).lens = s.lens := rfl
@[simp] theorem advance_mlen (n : Nat) (s : State) : (advance n s).mlen = s.mlen := rfl
@[simp] theorem advance_mdist (n : Nat) (s : State) : (advance n s).mdist = s.mdist := rfl
@[simp] theorem advance_win (n : Nat) (s : State) : (advance n s).win = s.win := rfl
@[simp] theorem advance_wpos (n : Nat) (s : State) : (advance n s).wpos = s.wpos := rfl
@[simp] theorem advance_total (n : Nat) (s : State) : (advance n s).total = s.total := rfl
@[simp] theorem advance_adlerA (n : Nat) (s : State) : (advance n s).adlerA = s.adlerA := rfl
@[simp] theorem advance_adlerB (n : Nat) (s : State) : (advance n s).adlerB = s.adlerB := rfl
@[simp] theorem advance_crc (n : Nat) (s : State) : (advance n s).crc = s.crc := rfl
@[simp] theorem advance_gflg (n : Nat) (s : State) : (advance n s).gflg = s.gflg := rfl
@[simp] theorem advance_xlen (n : Nat) (s : State) : (advance n s).xlen = s.xlen := rfl
@[simp] theorem advance_xlenValid (n : Nat) (s : State) : (advance n s).xlenValid = s.xlenValid := rfl
@[simp] theorem advance_errClass (n : Nat) (s : State) : (advance n s).errClass = s.errClass := rfl
@[simp] theorem advance_errSub (n : Nat) (s : State) : (advance n s).errSub = s.errSub := rfl
@[simp] theorem advance_cfgMode (n : Nat) (s : State) : (advance n s).cfgMode = s.cfgMode := rfl
@[simp] theorem advance_cfgWindowBits (n : Nat) (s : State) : (advance n s).cfgWindowBits = s.cfgWindowBits := rfl
@[simp] theorem advance_cfgCheckCrc (n : Nat) (s : State) : (advance n s).cfgCheckCrc = s.cfgCheckCrc := rfl
@[simp] theorem advance_sinkReady (n : Nat) (s : State) : (advance n s).sinkReady = s.sinkReady := rfl
@[simp] theorem advance_pending (n : Nat) (s : State) : (advance n s).pending = s.pending := rfl

@[simp] theorem advanceAligned_input (n : Nat) (s : State) : (advanceAligned n s).input = s.input := rfl
@[simp] theorem advanceAligned_inEos (n : Nat) (s : State) : (advanceAligned n s).inEos = s.inEos := rfl
@[simp] theorem advanceAligned_output (n : Nat) (s : State) : (advanceAligned n s).output = s.output := rfl
@[simp] theorem advanceAligned_pc (n : Nat) (s : State) : (advanceAligned n s).pc = alignUp s.pc + n := rfl
@[simp] theorem advanceAligned_phase (n : Nat) (s : State) : (advanceAligned n s).phase = s.phase := rfl
@[simp] theorem advanceAligned_mode (n : Nat) (s : State) : (advanceAligned n s).mode = s.mode := rfl
@[simp] theorem advanceAligned_checkCrc (n : Nat) (s : State) : (advanceAligned n s).checkCrc = s.checkCrc := rfl
@[simp] theorem advanceAligned_wbits (n : Nat) (s : State) : (advanceAligned n s).wbits = s.wbits := rfl
@[simp] theorem advanceAligned_bfinal (n : Nat) (s : State) : (advanceAligned n s).bfinal = s.bfinal := rfl
@[simp] theorem advanceAligned_btype (n : Nat) (s : State) : (advanceAligned n s).btype = s.btype := rfl
@[simp] theorem advanceAligned_slen (n : Nat) (s : State) : (advanceAligned n s).slen = s.slen := rfl
@[simp] theorem advanceAligned_hlit (n : Nat) (s : State) : (advanceAligned n s).hlit = s.hlit := rfl
@[simp] theorem advanceAligned_hdist (n : Nat) (s : State) : (advanceAligned n s).hdist = s.hdist := rfl
@[simp] theorem advanceAligned_hclen (n : Nat) (s : State) : (advanceAligned n s).hclen = s.hclen := rfl
@[simp] theorem advanceAligned_clidx (n : Nat) (s : State) : (advanceAligned n s).clidx = s.clidx := rfl
@[simp] theorem advanceAligned_lidx (n : Nat) (s : State) : (advanceAligned n s).lidx = s.lidx := rfl
@[simp] theorem advanceAligned_llLen (n : Nat) (s : State) : (advanceAligned n s).llLen = s.llLen := rfl
@[simp] theorem advanceAligned_dLen (n : Nat) (s : State) : (advanceAligned n s).dLen = s.dLen := rfl
@[simp] theorem advanceAligned_clLen (n : Nat) (s : State) : (advanceAligned n s).clLen = s.clLen := rfl
@[simp] theorem advanceAligned_lens (n : Nat) (s : State) : (advanceAligned n s).lens = s.lens := rfl
@[simp] theorem advanceAligned_mlen (n : Nat) (s : State) : (advanceAligned n s).mlen = s.mlen := rfl
@[simp] theorem advanceAligned_mdist (n : Nat) (s : State) : (advanceAligned n s).mdist = s.mdist := rfl
@[simp] theorem advanceAligned_win (n : Nat) (s : State) : (advanceAligned n s).win = s.win := rfl
@[simp] theorem advanceAligned_wpos (n : Nat) (s : State) : (advanceAligned n s).wpos = s.wpos := rfl
@[simp] theorem advanceAligned_total (n : Nat) (s : State) : (advanceAligned n s).total = s.total := rfl
@[simp] theorem advanceAligned_adlerA (n : Nat) (s : State) : (advanceAligned n s).adlerA = s.adlerA := rfl
@[simp] theorem advanceAligned_adlerB (n : Nat) (s : State) : (advanceAligned n s).adlerB = s.adlerB := rfl
@[simp] theorem advanceAligned_crc (n : Nat) (s : State) : (advanceAligned n s).crc = s.crc := rfl
@[simp] theorem advanceAligned_gflg (n : Nat) (s : State) : (advanceAligned n s).gflg = s.gflg := rfl
@[simp] theorem advanceAligned_xlen (n : Nat) (s : State) : (advanceAligned n s).xlen = s.xlen := rfl
@[simp] theorem advanceAligned_xlenValid (n : Nat) (s : State) : (advanceAligned n s).xlenValid = s.xlenValid := rfl
@[simp] theorem advanceAligned_errClass (n : Nat) (s : State) : (advanceAligned n s).errClass = s.errClass := rfl
@[simp] theorem advanceAligned_errSub (n : Nat) (s : State) : (advanceAligned n s).errSub = s.errSub := rfl
@[simp] theorem advanceAligned_cfgMode (n : Nat) (s : State) : (advanceAligned n s).cfgMode = s.cfgMode := rfl
@[simp] theorem advanceAligned_cfgWindowBits (n : Nat) (s : State) :
    (advanceAligned n s).cfgWindowBits = s.cfgWindowBits := rfl
@[simp] theorem advanceAligned_cfgCheckCrc (n : Nat) (s : State) :
    (advanceAligned n s).cfgCheckCrc = s.cfgCheckCrc := rfl
@[simp] theorem advanceAligned_sinkReady (n : Nat) (s : State) : (advanceAligned n s).sinkReady = s.sinkReady := rfl
@[simp] theorem advanceAligned_pending (n : Nat) (s : State) : (advanceAligned n s).pending = s.pending := rfl

@[simp] theorem enterError_input (e : ErrSub) (s : State) : (enterError e s).input = s.input := rfl
@[simp] theorem enterError_inEos (e : ErrSub) (s : State) : (enterError e s).inEos = s.inEos := rfl
@[simp] theorem enterError_output (e : ErrSub) (s : State) : (enterError e s).output = s.output := rfl
@[simp] theorem enterError_pc (e : ErrSub) (s : State) : (enterError e s).pc = s.pc := rfl
@[simp] theorem enterError_phase (e : ErrSub) (s : State) : (enterError e s).phase = .error := rfl
@[simp] theorem enterError_mode (e : ErrSub) (s : State) : (enterError e s).mode = s.mode := rfl
@[simp] theorem enterError_checkCrc (e : ErrSub) (s : State) : (enterError e s).checkCrc = s.checkCrc := rfl
@[simp] theorem enterError_wbits (e : ErrSub) (s : State) : (enterError e s).wbits = s.wbits := rfl
@[simp] theorem enterError_bfinal (e : ErrSub) (s : State) : (enterError e s).bfinal = s.bfinal := rfl
@[simp] theorem enterError_btype (e : ErrSub) (s : State) : (enterError e s).btype = s.btype := rfl
@[simp] theorem enterError_slen (e : ErrSub) (s : State) : (enterError e s).slen = s.slen := rfl
@[simp] theorem enterError_hlit (e : ErrSub) (s : State) : (enterError e s).hlit = s.hlit := rfl
@[simp] theorem enterError_hdist (e : ErrSub) (s : State) : (enterError e s).hdist = s.hdist := rfl
@[simp] theorem enterError_hclen (e : ErrSub) (s : State) : (enterError e s).hclen = s.hclen := rfl
@[simp] theorem enterError_clidx (e : ErrSub) (s : State) : (enterError e s).clidx = s.clidx := rfl
@[simp] theorem enterError_lidx (e : ErrSub) (s : State) : (enterError e s).lidx = s.lidx := rfl
@[simp] theorem enterError_llLen (e : ErrSub) (s : State) : (enterError e s).llLen = s.llLen := rfl
@[simp] theorem enterError_dLen (e : ErrSub) (s : State) : (enterError e s).dLen = s.dLen := rfl
@[simp] theorem enterError_clLen (e : ErrSub) (s : State) : (enterError e s).clLen = s.clLen := rfl
@[simp] theorem enterError_lens (e : ErrSub) (s : State) : (enterError e s).lens = s.lens := rfl
@[simp] theorem enterError_mlen (e : ErrSub) (s : State) : (enterError e s).mlen = s.mlen := rfl
@[simp] theorem enterError_mdist (e : ErrSub) (s : State) : (enterError e s).mdist = s.mdist := rfl
@[simp] theorem enterError_win (e : ErrSub) (s : State) : (enterError e s).win = s.win := rfl
@[simp] theorem enterError_wpos (e : ErrSub) (s : State) : (enterError e s).wpos = s.wpos := rfl
@[simp] theorem enterError_total (e : ErrSub) (s : State) : (enterError e s).total = s.total := rfl
@[simp] theorem enterError_adlerA (e : ErrSub) (s : State) : (enterError e s).adlerA = s.adlerA := rfl
@[simp] theorem enterError_adlerB (e : ErrSub) (s : State) : (enterError e s).adlerB = s.adlerB := rfl
@[simp] theorem enterError_crc (e : ErrSub) (s : State) : (enterError e s).crc = s.crc := rfl
@[simp] theorem enterError_gflg (e : ErrSub) (s : State) : (enterError e s).gflg = s.gflg := rfl
@[simp] theorem enterError_xlen (e : ErrSub) (s : State) : (enterError e s).xlen = s.xlen := rfl
@[simp] theorem enterError_xlenValid (e : ErrSub) (s : State) : (enterError e s).xlenValid = s.xlenValid := rfl
@[simp] theorem enterError_errClass (e : ErrSub) (s : State) : (enterError e s).errClass = subClass e := rfl
@[simp] theorem enterError_errSub (e : ErrSub) (s : State) : (enterError e s).errSub = e := rfl
@[simp] theorem enterError_cfgMode (e : ErrSub) (s : State) : (enterError e s).cfgMode = s.cfgMode := rfl
@[simp] theorem enterError_cfgWindowBits (e : ErrSub) (s : State) :
    (enterError e s).cfgWindowBits = s.cfgWindowBits := rfl
@[simp] theorem enterError_cfgCheckCrc (e : ErrSub) (s : State) : (enterError e s).cfgCheckCrc = s.cfgCheckCrc := rfl
@[simp] theorem enterError_sinkReady (e : ErrSub) (s : State) : (enterError e s).sinkReady = s.sinkReady := rfl
@[simp] theorem enterError_pending (e : ErrSub) (s : State) : (enterError e s).pending = s.pending := rfl

@[simp] theorem emitted_input (b : Byte) (s : State) : (emitted b s).input = s.input := rfl
@[simp] theorem emitted_inEos (b : Byte) (s : State) : (emitted b s).inEos = s.inEos := rfl
@[simp] theorem emitted_output (b : Byte) (s : State) : (emitted b s).output = s.output ++ [b] := rfl
@[simp] theorem emitted_pc (b : Byte) (s : State) : (emitted b s).pc = s.pc := rfl
@[simp] theorem emitted_phase (b : Byte) (s : State) : (emitted b s).phase = s.phase := rfl
@[simp] theorem emitted_mode (b : Byte) (s : State) : (emitted b s).mode = s.mode := rfl
@[simp] theorem emitted_checkCrc (b : Byte) (s : State) : (emitted b s).checkCrc = s.checkCrc := rfl
@[simp] theorem emitted_wbits (b : Byte) (s : State) : (emitted b s).wbits = s.wbits := rfl
@[simp] theorem emitted_bfinal (b : Byte) (s : State) : (emitted b s).bfinal = s.bfinal := rfl
@[simp] theorem emitted_btype (b : Byte) (s : State) : (emitted b s).btype = s.btype := rfl
@[simp] theorem emitted_slen (b : Byte) (s : State) : (emitted b s).slen = s.slen := rfl
@[simp] theorem emitted_hlit (b : Byte) (s : State) : (emitted b s).hlit = s.hlit := rfl
@[simp] theorem emitted_hdist (b : Byte) (s : State) : (emitted b s).hdist = s.hdist := rfl
@[simp] theorem emitted_hclen (b : Byte) (s : State) : (emitted b s).hclen = s.hclen := rfl
@[simp] theorem emitted_clidx (b : Byte) (s : State) : (emitted b s).clidx = s.clidx := rfl
@[simp] theorem emitted_lidx (b : Byte) (s : State) : (emitted b s).lidx = s.lidx := rfl
@[simp] theorem emitted_llLen (b : Byte) (s : State) : (emitted b s).llLen = s.llLen := rfl
@[simp] theorem emitted_dLen (b : Byte) (s : State) : (emitted b s).dLen = s.dLen := rfl
@[simp] theorem emitted_clLen (b : Byte) (s : State) : (emitted b s).clLen = s.clLen := rfl
@[simp] theorem emitted_lens (b : Byte) (s : State) : (emitted b s).lens = s.lens := rfl
@[simp] theorem emitted_mlen (b : Byte) (s : State) : (emitted b s).mlen = s.mlen := rfl
@[simp] theorem emitted_mdist (b : Byte) (s : State) : (emitted b s).mdist = s.mdist := rfl
@[simp] theorem emitted_win (b : Byte) (s : State) : (emitted b s).win = s.win.write s.wpos b := rfl
@[simp] theorem emitted_wpos (b : Byte) (s : State) :
    (emitted b s).wpos = BitVec.ofNat 15 ((s.wpos.toNat + 1) % 2 ^ s.wbits.toNat) := rfl
@[simp] theorem emitted_total (b : Byte) (s : State) : (emitted b s).total = s.total + 1 := rfl
@[simp] theorem emitted_adlerA (b : Byte) (s : State) : (emitted b s).adlerA = (adlerStep s.adlerA s.adlerB b).1 := rfl
@[simp] theorem emitted_adlerB (b : Byte) (s : State) : (emitted b s).adlerB = (adlerStep s.adlerA s.adlerB b).2 := rfl
@[simp] theorem emitted_crc (b : Byte) (s : State) : (emitted b s).crc = crcStep s.crc b := rfl
@[simp] theorem emitted_gflg (b : Byte) (s : State) : (emitted b s).gflg = s.gflg := rfl
@[simp] theorem emitted_xlen (b : Byte) (s : State) : (emitted b s).xlen = s.xlen := rfl
@[simp] theorem emitted_xlenValid (b : Byte) (s : State) : (emitted b s).xlenValid = s.xlenValid := rfl
@[simp] theorem emitted_errClass (b : Byte) (s : State) : (emitted b s).errClass = s.errClass := rfl
@[simp] theorem emitted_errSub (b : Byte) (s : State) : (emitted b s).errSub = s.errSub := rfl
@[simp] theorem emitted_cfgMode (b : Byte) (s : State) : (emitted b s).cfgMode = s.cfgMode := rfl
@[simp] theorem emitted_cfgWindowBits (b : Byte) (s : State) : (emitted b s).cfgWindowBits = s.cfgWindowBits := rfl
@[simp] theorem emitted_cfgCheckCrc (b : Byte) (s : State) : (emitted b s).cfgCheckCrc = s.cfgCheckCrc := rfl
@[simp] theorem emitted_sinkReady (b : Byte) (s : State) : (emitted b s).sinkReady = s.sinkReady := rfl
@[simp] theorem emitted_pending (b : Byte) (s : State) : (emitted b s).pending = s.pending := rfl

@[simp] theorem splitLens_input (s : State) : (splitLens s).input = s.input := rfl
@[simp] theorem splitLens_inEos (s : State) : (splitLens s).inEos = s.inEos := rfl
@[simp] theorem splitLens_output (s : State) : (splitLens s).output = s.output := rfl
@[simp] theorem splitLens_pc (s : State) : (splitLens s).pc = s.pc := rfl
@[simp] theorem splitLens_phase (s : State) : (splitLens s).phase = s.phase := rfl
@[simp] theorem splitLens_mode (s : State) : (splitLens s).mode = s.mode := rfl
@[simp] theorem splitLens_checkCrc (s : State) : (splitLens s).checkCrc = s.checkCrc := rfl
@[simp] theorem splitLens_wbits (s : State) : (splitLens s).wbits = s.wbits := rfl
@[simp] theorem splitLens_bfinal (s : State) : (splitLens s).bfinal = s.bfinal := rfl
@[simp] theorem splitLens_btype (s : State) : (splitLens s).btype = s.btype := rfl
@[simp] theorem splitLens_slen (s : State) : (splitLens s).slen = s.slen := rfl
@[simp] theorem splitLens_hlit (s : State) : (splitLens s).hlit = s.hlit := rfl
@[simp] theorem splitLens_hdist (s : State) : (splitLens s).hdist = s.hdist := rfl
@[simp] theorem splitLens_hclen (s : State) : (splitLens s).hclen = s.hclen := rfl
@[simp] theorem splitLens_clidx (s : State) : (splitLens s).clidx = s.clidx := rfl
@[simp] theorem splitLens_lidx (s : State) : (splitLens s).lidx = s.lidx := rfl
@[simp] theorem splitLens_llLen (s : State) :
    (splitLens s).llLen = vecOf 288 fun i => if i < s.hlit.toNat then entry s.lens i else 0 := rfl
@[simp] theorem splitLens_dLen (s : State) :
    (splitLens s).dLen = vecOf 32 fun i => if i < s.hdist.toNat then entry s.lens (s.hlit.toNat + i) else 0 := rfl
@[simp] theorem splitLens_clLen (s : State) : (splitLens s).clLen = s.clLen := rfl
@[simp] theorem splitLens_lens (s : State) : (splitLens s).lens = s.lens := rfl
@[simp] theorem splitLens_mlen (s : State) : (splitLens s).mlen = s.mlen := rfl
@[simp] theorem splitLens_mdist (s : State) : (splitLens s).mdist = s.mdist := rfl
@[simp] theorem splitLens_win (s : State) : (splitLens s).win = s.win := rfl
@[simp] theorem splitLens_wpos (s : State) : (splitLens s).wpos = s.wpos := rfl
@[simp] theorem splitLens_total (s : State) : (splitLens s).total = s.total := rfl
@[simp] theorem splitLens_adlerA (s : State) : (splitLens s).adlerA = s.adlerA := rfl
@[simp] theorem splitLens_adlerB (s : State) : (splitLens s).adlerB = s.adlerB := rfl
@[simp] theorem splitLens_crc (s : State) : (splitLens s).crc = s.crc := rfl
@[simp] theorem splitLens_gflg (s : State) : (splitLens s).gflg = s.gflg := rfl
@[simp] theorem splitLens_xlen (s : State) : (splitLens s).xlen = s.xlen := rfl
@[simp] theorem splitLens_xlenValid (s : State) : (splitLens s).xlenValid = s.xlenValid := rfl
@[simp] theorem splitLens_errClass (s : State) : (splitLens s).errClass = s.errClass := rfl
@[simp] theorem splitLens_errSub (s : State) : (splitLens s).errSub = s.errSub := rfl
@[simp] theorem splitLens_cfgMode (s : State) : (splitLens s).cfgMode = s.cfgMode := rfl
@[simp] theorem splitLens_cfgWindowBits (s : State) : (splitLens s).cfgWindowBits = s.cfgWindowBits := rfl
@[simp] theorem splitLens_cfgCheckCrc (s : State) : (splitLens s).cfgCheckCrc = s.cfgCheckCrc := rfl
@[simp] theorem splitLens_sinkReady (s : State) : (splitLens s).sinkReady = s.sinkReady := rfl
@[simp] theorem splitLens_pending (s : State) : (splitLens s).pending = s.pending := rfl

@[simp] theorem blockHeader_input (final : Bool) (btype : BitVec 2) (s : State) :
    (blockHeader final btype s).input = s.input := rfl
@[simp] theorem blockHeader_inEos (final : Bool) (btype : BitVec 2) (s : State) :
    (blockHeader final btype s).inEos = s.inEos := rfl
@[simp] theorem blockHeader_output (final : Bool) (btype : BitVec 2) (s : State) :
    (blockHeader final btype s).output = s.output := rfl
@[simp] theorem blockHeader_pc (final : Bool) (btype : BitVec 2) (s : State) :
    (blockHeader final btype s).pc = s.pc + 3 := rfl
@[simp] theorem blockHeader_phase (final : Bool) (btype : BitVec 2) (s : State) :
    (blockHeader final btype s).phase = s.phase := rfl
@[simp] theorem blockHeader_mode (final : Bool) (btype : BitVec 2) (s : State) :
    (blockHeader final btype s).mode = s.mode := rfl
@[simp] theorem blockHeader_checkCrc (final : Bool) (btype : BitVec 2) (s : State) :
    (blockHeader final btype s).checkCrc = s.checkCrc := rfl
@[simp] theorem blockHeader_wbits (final : Bool) (btype : BitVec 2) (s : State) :
    (blockHeader final btype s).wbits = s.wbits := rfl
@[simp] theorem blockHeader_bfinal (final : Bool) (btype : BitVec 2) (s : State) :
    (blockHeader final btype s).bfinal = final := rfl
@[simp] theorem blockHeader_btype (final : Bool) (btype : BitVec 2) (s : State) :
    (blockHeader final btype s).btype = btype := rfl
@[simp] theorem blockHeader_slen (final : Bool) (btype : BitVec 2) (s : State) :
    (blockHeader final btype s).slen = s.slen := rfl
@[simp] theorem blockHeader_hlit (final : Bool) (btype : BitVec 2) (s : State) :
    (blockHeader final btype s).hlit = s.hlit := rfl
@[simp] theorem blockHeader_hdist (final : Bool) (btype : BitVec 2) (s : State) :
    (blockHeader final btype s).hdist = s.hdist := rfl
@[simp] theorem blockHeader_hclen (final : Bool) (btype : BitVec 2) (s : State) :
    (blockHeader final btype s).hclen = s.hclen := rfl
@[simp] theorem blockHeader_clidx (final : Bool) (btype : BitVec 2) (s : State) :
    (blockHeader final btype s).clidx = s.clidx := rfl
@[simp] theorem blockHeader_lidx (final : Bool) (btype : BitVec 2) (s : State) :
    (blockHeader final btype s).lidx = s.lidx := rfl
@[simp] theorem blockHeader_llLen (final : Bool) (btype : BitVec 2) (s : State) :
    (blockHeader final btype s).llLen = s.llLen := rfl
@[simp] theorem blockHeader_dLen (final : Bool) (btype : BitVec 2) (s : State) :
    (blockHeader final btype s).dLen = s.dLen := rfl
@[simp] theorem blockHeader_clLen (final : Bool) (btype : BitVec 2) (s : State) :
    (blockHeader final btype s).clLen = s.clLen := rfl
@[simp] theorem blockHeader_lens (final : Bool) (btype : BitVec 2) (s : State) :
    (blockHeader final btype s).lens = s.lens := rfl
@[simp] theorem blockHeader_mlen (final : Bool) (btype : BitVec 2) (s : State) :
    (blockHeader final btype s).mlen = s.mlen := rfl
@[simp] theorem blockHeader_mdist (final : Bool) (btype : BitVec 2) (s : State) :
    (blockHeader final btype s).mdist = s.mdist := rfl
@[simp] theorem blockHeader_win (final : Bool) (btype : BitVec 2) (s : State) :
    (blockHeader final btype s).win = s.win := rfl
@[simp] theorem blockHeader_wpos (final : Bool) (btype : BitVec 2) (s : State) :
    (blockHeader final btype s).wpos = s.wpos := rfl
@[simp] theorem blockHeader_total (final : Bool) (btype : BitVec 2) (s : State) :
    (blockHeader final btype s).total = s.total := rfl
@[simp] theorem blockHeader_adlerA (final : Bool) (btype : BitVec 2) (s : State) :
    (blockHeader final btype s).adlerA = s.adlerA := rfl
@[simp] theorem blockHeader_adlerB (final : Bool) (btype : BitVec 2) (s : State) :
    (blockHeader final btype s).adlerB = s.adlerB := rfl
@[simp] theorem blockHeader_crc (final : Bool) (btype : BitVec 2) (s : State) :
    (blockHeader final btype s).crc = s.crc := rfl
@[simp] theorem blockHeader_gflg (final : Bool) (btype : BitVec 2) (s : State) :
    (blockHeader final btype s).gflg = s.gflg := rfl
@[simp] theorem blockHeader_xlen (final : Bool) (btype : BitVec 2) (s : State) :
    (blockHeader final btype s).xlen = s.xlen := rfl
@[simp] theorem blockHeader_xlenValid (final : Bool) (btype : BitVec 2) (s : State) :
    (blockHeader final btype s).xlenValid = s.xlenValid := rfl
@[simp] theorem blockHeader_errClass (final : Bool) (btype : BitVec 2) (s : State) :
    (blockHeader final btype s).errClass = s.errClass := rfl
@[simp] theorem blockHeader_errSub (final : Bool) (btype : BitVec 2) (s : State) :
    (blockHeader final btype s).errSub = s.errSub := rfl
@[simp] theorem blockHeader_cfgMode (final : Bool) (btype : BitVec 2) (s : State) :
    (blockHeader final btype s).cfgMode = s.cfgMode := rfl
@[simp] theorem blockHeader_cfgWindowBits (final : Bool) (btype : BitVec 2) (s : State) :
    (blockHeader final btype s).cfgWindowBits = s.cfgWindowBits := rfl
@[simp] theorem blockHeader_cfgCheckCrc (final : Bool) (btype : BitVec 2) (s : State) :
    (blockHeader final btype s).cfgCheckCrc = s.cfgCheckCrc := rfl
@[simp] theorem blockHeader_sinkReady (final : Bool) (btype : BitVec 2) (s : State) :
    (blockHeader final btype s).sinkReady = s.sinkReady := rfl
@[simp] theorem blockHeader_pending (final : Bool) (btype : BitVec 2) (s : State) :
    (blockHeader final btype s).pending = s.pending := rfl

@[simp] theorem resetCore_input (s : State) : (resetCore s).input = [] := rfl
@[simp] theorem resetCore_inEos (s : State) : (resetCore s).inEos = false := rfl
@[simp] theorem resetCore_output (s : State) : (resetCore s).output = [] := rfl
@[simp] theorem resetCore_pc (s : State) : (resetCore s).pc = 0 := rfl
@[simp] theorem resetCore_phase (s : State) : (resetCore s).phase = .idle := rfl
@[simp] theorem resetCore_mode (s : State) : (resetCore s).mode = .raw := rfl
@[simp] theorem resetCore_checkCrc (s : State) : (resetCore s).checkCrc = true := rfl
@[simp] theorem resetCore_wbits (s : State) : (resetCore s).wbits = 15 := rfl
@[simp] theorem resetCore_bfinal (s : State) : (resetCore s).bfinal = false := rfl
@[simp] theorem resetCore_btype (s : State) : (resetCore s).btype = 0 := rfl
@[simp] theorem resetCore_slen (s : State) : (resetCore s).slen = 0 := rfl
@[simp] theorem resetCore_hlit (s : State) : (resetCore s).hlit = 0 := rfl
@[simp] theorem resetCore_hdist (s : State) : (resetCore s).hdist = 0 := rfl
@[simp] theorem resetCore_hclen (s : State) : (resetCore s).hclen = 0 := rfl
@[simp] theorem resetCore_clidx (s : State) : (resetCore s).clidx = 0 := rfl
@[simp] theorem resetCore_lidx (s : State) : (resetCore s).lidx = 0 := rfl
@[simp] theorem resetCore_llLen (s : State) : (resetCore s).llLen = Vector.replicate 288 0 := rfl
@[simp] theorem resetCore_dLen (s : State) : (resetCore s).dLen = Vector.replicate 32 0 := rfl
@[simp] theorem resetCore_clLen (s : State) : (resetCore s).clLen = Vector.replicate 19 0 := rfl
@[simp] theorem resetCore_lens (s : State) : (resetCore s).lens = Vector.replicate 320 0 := rfl
@[simp] theorem resetCore_mlen (s : State) : (resetCore s).mlen = 0 := rfl
@[simp] theorem resetCore_mdist (s : State) : (resetCore s).mdist = 0 := rfl
@[simp] theorem resetCore_win (s : State) : (resetCore s).win = s.win := rfl
@[simp] theorem resetCore_wpos (s : State) : (resetCore s).wpos = 0 := rfl
@[simp] theorem resetCore_total (s : State) : (resetCore s).total = 0 := rfl
@[simp] theorem resetCore_adlerA (s : State) : (resetCore s).adlerA = 1 := rfl
@[simp] theorem resetCore_adlerB (s : State) : (resetCore s).adlerB = 0 := rfl
@[simp] theorem resetCore_crc (s : State) : (resetCore s).crc = 0 := rfl
@[simp] theorem resetCore_gflg (s : State) : (resetCore s).gflg = 0 := rfl
@[simp] theorem resetCore_xlen (s : State) : (resetCore s).xlen = 0 := rfl
@[simp] theorem resetCore_xlenValid (s : State) : (resetCore s).xlenValid = false := rfl
@[simp] theorem resetCore_errClass (s : State) : (resetCore s).errClass = .none := rfl
@[simp] theorem resetCore_errSub (s : State) : (resetCore s).errSub = .none := rfl
@[simp] theorem resetCore_cfgMode (s : State) : (resetCore s).cfgMode = s.cfgMode := rfl
@[simp] theorem resetCore_cfgWindowBits (s : State) : (resetCore s).cfgWindowBits = s.cfgWindowBits := rfl
@[simp] theorem resetCore_cfgCheckCrc (s : State) : (resetCore s).cfgCheckCrc = s.cfgCheckCrc := rfl
@[simp] theorem resetCore_sinkReady (s : State) : (resetCore s).sinkReady = s.sinkReady := rfl
@[simp] theorem resetCore_pending (s : State) : (resetCore s).pending = s.pending := rfl

end Sys2Proof.Machine
end

