-- ==== Sys2Proof/Laws/Ops.lean ====
section
/-! SUPPORT. For each shared operation, everything it can do. -/

namespace Sys2Proof.Machine

@[simp] theorem andThen_done (s : State) (r : Rule) : (Firing.done s).andThen r = r s := rfl
@[simp] theorem andThen_hold (r : Rule) : Firing.hold.andThen r = .hold := rfl
@[simp] theorem andThen_raise (e : ErrSub) (r : Rule) : (Firing.raise e).andThen r = .raise e := rfl
@[simp] theorem andThen_stop (f : Fault) (r : Rule) : (Firing.stop f).andThen r = .stop f := rfl

theorem commit_done {r : Rule} {s t : State} (h : r s = .done t) : commit r s = .next t := by simp [commit, h]
theorem commit_hold {r : Rule} {s : State} (h : r s = .hold) : commit r s = .next s := by simp [commit, h]
theorem commit_raise {r : Rule} {s : State} {e : ErrSub} (h : r s = .raise e) : commit r s = .next (enterError e s) := by
  simp [commit, h]
theorem commit_stop {r : Rule} {s : State} {f : Fault} (h : r s = .stop f) : commit r s = .fault f := by simp [commit, h]

/-- A committed rule that answers a next state has fired, held, or raised (R73). -/
theorem commit_next {r : Rule} {s t : State} (h : commit r s = .next t) :
    r s = .done t ∨ (r s = .hold ∧ t = s) ∨ ∃ e, r s = .raise e ∧ t = enterError e s := by
  unfold commit at h
  split at h <;> simp_all

/-- A committed rule faults only where it stops. -/
theorem commit_fault {r : Rule} {s : State} {f : Fault} (h : commit r s = .fault f) : r s = .stop f := by
  unfold commit at h
  split at h <;> simp_all

/-- A committed rule never refuses. -/
theorem commit_ne_refused (r : Rule) (s : State) (x : Refusal) : commit r s ≠ .refused x := by
  unfold commit
  split <;> simp

/-- `Emit` (R161) writes its byte where the sink is ready, and holds where it is not. -/
theorem emit_eq (b : Byte) (s : State) :
    (s.sinkReady = true ∧ emit b s = .done (emitted b s)) ∨ (s.sinkReady = false ∧ emit b s = .hold) := by
  unfold emit
  cases s.sinkReady <;> simp

/-- `Emit` and then a rule (R161, R16). -/
theorem emit_andThen {b : Byte} {s : State} {r : Rule} :
    (emit b s).andThen r = if s.sinkReady then r (emitted b s) else .hold := by
  unfold emit
  split <;> rfl

/-- The phase after a block (R177). -/
theorem afterBlock_cases (s : State) :
    (s.bfinal = false ∧ afterBlock s = .blockHdr) ∨ (s.bfinal = true ∧ s.mode = .raw ∧ afterBlock s = .done) ∨
    (s.bfinal = true ∧ s.mode = .zlib ∧ afterBlock s = .zlibTrailer) ∨
    (s.bfinal = true ∧ s.mode = .gzip ∧ afterBlock s = .gzipTrailer) := by
  unfold afterBlock
  cases s.bfinal <;> cases s.mode <;> simp

/-- A coded-length element (R184): the overrun fault, more lengths to come, or the last lengths with the split. -/
theorem appendLengths_cases (v : BitVec 4) (n : Nat) (s : State) :
    (s.hlit.toNat + s.hdist.toNat < s.lidx.toNat + n ∧ appendLengths v n s = .raise .repeatOverrun) ∨
    (s.lidx.toNat + n < s.hlit.toNat + s.hdist.toNat ∧ appendLengths v n s =
      .done { s with lens := filledLens s.lens s.lidx.toNat n v, lidx := BitVec.ofNat 9 (s.lidx.toNat + n) }) ∨
    (s.lidx.toNat + n = s.hlit.toNat + s.hdist.toNat ∧ appendLengths v n s =
      .done { splitLens { s with lens := filledLens s.lens s.lidx.toNat n v, lidx := BitVec.ofNat 9 (s.lidx.toNat + n) } with
        phase := .symbol }) := by
  rcases Nat.lt_trichotomy (s.hlit.toNat + s.hdist.toNat) (s.lidx.toNat + n) with h | h | h
  · exact Or.inl ⟨h, by simp [appendLengths, h]⟩
  · exact Or.inr (Or.inr ⟨h.symm, by simp [appendLengths, h]⟩)
  · exact Or.inr (Or.inl ⟨h, by simp [appendLengths, Nat.not_lt.2 (Nat.le_of_lt h), Nat.ne_of_lt h]⟩)

/-- The phase after the fixed gzip header and its parts is a header part or the first block (R317). -/
theorem gzAfterHdr_cases (flg : Byte) :
    gzAfterHdr flg = .gzipExtra ∨ gzAfterHdr flg = .gzipName ∨ gzAfterHdr flg = .gzipComment ∨ gzAfterHdr flg = .gzipHcrc ∨
    gzAfterHdr flg = .blockHdr := by
  unfold gzAfterHdr gzAfterExtra gzAfterName gzAfterComment
  split
  · simp
  · split
    · simp
    · split
      · simp
      · split <;> simp

/-- The distance part of a back-reference (R204, R207): it writes `MDIST` and the cursor and goes to COPY, or faults. -/
theorem runDist_cases (d : DistPart) (s : State) :
    (d.sym.toNat < 30 ∧ ∃ extra dist, runDist d s =
      .done { advance (dBits d.sym.toNat s + extra) s with mdist := BitVec.ofNat 16 dist, phase := .copy }) ∨
    (30 ≤ d.sym.toNat ∧ runDist d s = .raise .invalidDistanceSymbol) := by
  have h32 := d.sym.isLt
  obtain ⟨sym, extra⟩ := d
  simp only at h32 ⊢
  unfold runDist
  generalize hk : sym.toNat = k at *
  simp only
  interval_cases k <;> first
    | exact Or.inl ⟨by decide, _, _, rfl⟩
    | exact Or.inr ⟨by decide, rfl⟩

/-- A step is the core's, or the next agent's (R7). -/
theorem step_eq (s : State) :
    (s.pending = [] ∧ step s = coreStep s) ∨
    ∃ a rest, s.pending = a :: rest ∧ step s = agentStep a { s with pending := rest } := by
  unfold step stepAgents
  cases h : s.pending with
  | nil => exact Or.inl ⟨rfl, rfl⟩
  | cons a rest => exact Or.inr ⟨a, rest, rfl, rfl⟩

/-- A step of the core runs the element it fetches, or does what `notFetched` says. -/
theorem coreStep_eq (s : State) :
    (∃ i c, fetch s = .ok i c ∧ coreStep s = exec i s) ∨ ∃ r, fetch s = .reject r ∧ coreStep s = notFetched r s := by
  unfold coreStep
  cases h : fetch s with
  | ok i c => exact Or.inl ⟨i, c, rfl, rfl⟩
  | reject r => exact Or.inr ⟨r, rfl, rfl⟩

/-- The host's `start` (R341 to R343): nothing, or the entry state of the operation. -/
theorem hostStart_cases (s : State) :
    ((busy s = true ∨ cfgInvalid s = true) ∧ hostStart s = s) ∨
    (busy s = false ∧ cfgInvalid s = false ∧ hostStart s =
      { resetCore s with
        mode := modeOf s.cfgMode, checkCrc := s.cfgCheckCrc,
        wbits := entryWbits (modeOf s.cfgMode) s.cfgWindowBits, phase := entryPhase (modeOf s.cfgMode) }) := by
  unfold hostStart
  cases busy s <;> cases cfgInvalid s <;> simp

end Sys2Proof.Machine
end

