-- ==== Sys2Proof/Laws/Exec.lean ====
section
/-! SUPPORT. What one element can do: the inversion of `exec`, over all elements at once. -/

namespace Sys2Proof.Machine

/-- What every element other than an emitting one leaves alone when it moves on: the input, the
configuration, the output, the window RAM, the accumulators, the reported error. The cursor
never moves back. -/
structure Quiet (s t : State) : Prop where
  input : t.input = s.input
  inEos : t.inEos = s.inEos
  mode : t.mode = s.mode
  checkCrc : t.checkCrc = s.checkCrc
  cfgMode : t.cfgMode = s.cfgMode
  cfgWindowBits : t.cfgWindowBits = s.cfgWindowBits
  cfgCheckCrc : t.cfgCheckCrc = s.cfgCheckCrc
  sinkReady : t.sinkReady = s.sinkReady
  pending : t.pending = s.pending
  output : t.output = s.output
  win : t.win = s.win
  wpos : t.wpos = s.wpos
  total : t.total = s.total
  adlerA : t.adlerA = s.adlerA
  adlerB : t.adlerB = s.adlerB
  crc : t.crc = s.crc
  errClass : t.errClass = s.errClass
  errSub : t.errSub = s.errSub
  pc : s.pc ≤ t.pc

theorem le_alignUp_add (p n : Nat) : p ≤ alignUp p + n := Nat.le_trans (alignUp_spec p).1 (Nat.le_add_right _ _)
theorem afterBlock_ne_error (s : State) : afterBlock s ≠ .error := by
  rcases afterBlock_cases s with h | h | h | h <;> simp [h]

/-- All that one element can do when `exec` answers a next state: hold because the sink is not
ready, enter ERROR, deliver one byte, or move on with `Quiet`. -/
inductive Did (s t : State) : Prop
  | held (h : t = s) (k : s.sinkReady = false)
  | raised (e : ErrSub) (he : e ≠ .none) (h : t = enterError e s)
  | emittedByte (b : Byte) (n : Nat) (sl : BitVec 16) (p : Phase) (hp : p ≠ .error ∨ p = s.phase) (h : t = { emitted b s with pc := s.pc + n, slen := sl, phase := p })
  | moved (q : Quiet s t) (hp : t.phase ≠ .error ∨ t.phase = s.phase)


/-- A length symbol either prepares a copy or raises its distance symbol's error. -/
theorem lengthRule_cases (c x l : Nat) (d : DistPart) (s : State) :
    (∃ n di, lengthRule c x l d s = .done { s with pc := s.pc + n, mlen := BitVec.ofNat 9 l, mdist := di, phase := .copy }) ∨
    lengthRule c x l d s = .raise .invalidDistanceSymbol := by
  unfold lengthRule
  rcases runDist_cases d { advance (llBits c s + x) s with mlen := BitVec.ofNat 9 l } with ⟨_, ex, di, h'⟩ | ⟨_, h'⟩
  · refine Or.inl ⟨llBits c s + x + (dBits d.sym.toNat s + ex), BitVec.ofNat 16 di, h'.trans ?_⟩
    simp [advance, dBits, Nat.add_assoc]
  · exact Or.inr h'

theorem did_length (c x l : Nat) (d : DistPart) (s t : State) (h : commit (lengthRule c x l d) s = .next t) : Did s t := by
  rcases lengthRule_cases c x l d s with ⟨n, di, k⟩ | k
  · rw [commit_done k] at h; cases h
    exact .moved ⟨rfl,rfl,rfl,rfl,rfl,rfl,rfl,rfl,rfl,rfl,rfl,rfl,rfl,rfl,rfl,rfl,rfl,rfl,Nat.le_add_right _ _⟩ (by simp)
  · rw [commit_raise k] at h; cases h
    exact .raised _ (by simp) rfl

theorem did_coded (sym x : Nat) (v : BitVec 4) (n : Nat) (s t : State) (h : commit (codedLength sym x v n) s = .next t) : Did s t := by
  rcases appendLengths_cases v n (advance (clBits sym s + x) s) with ⟨_, k⟩ | ⟨_, k⟩ | ⟨_, k⟩
  · rw [commit_raise (r := codedLength sym x v n) k] at h; cases h
    exact .raised _ (by simp) rfl
  · rw [commit_done (r := codedLength sym x v n) k] at h; cases h
    exact .moved ⟨rfl,rfl,rfl,rfl,rfl,rfl,rfl,rfl,rfl,rfl,rfl,rfl,rfl,rfl,rfl,rfl,rfl,rfl,by simp⟩ (Or.inr rfl)
  · rw [commit_done (r := codedLength sym x v n) k] at h; cases h
    exact .moved ⟨rfl,rfl,rfl,rfl,rfl,rfl,rfl,rfl,rfl,rfl,rfl,rfl,rfl,rfl,rfl,rfl,rfl,rfl,by simp⟩ (Or.inl (by simp))

theorem did_dist (d x l : Nat) (s t : State) (h : commit (distanceRule d x l) s = .next t) : Did s t := by
  cases h
  exact .moved ⟨rfl,rfl,rfl,rfl,rfl,rfl,rfl,rfl,rfl,rfl,rfl,rfl,rfl,rfl,rfl,rfl,rfl,rfl,Nat.le_add_right _ _⟩ (by simp)

/-- The inversion of `exec`: cite it in place of unfolding a meaning. -/
theorem did_exec (i : Instr) (s t : State) (h : exec i s = .next t) : Did s t := by
  cases i
  case zlibHdr c f =>
    simp only [exec, execZlibHdr, commit] at h
    split at h <;> rename_i hh <;> (repeat' split at hh) <;> cases hh <;> cases h
    all_goals first
      | exact .raised _ (by simp) rfl
      | exact .moved ⟨rfl,rfl,rfl,rfl,rfl,rfl,rfl,rfl,rfl,rfl,rfl,rfl,rfl,rfl,rfl,rfl,rfl,rfl, le_alignUp_add _ _⟩ (Or.inl (by simp))
  case zlibTrailer v =>
    simp only [exec, execZlibTrailer, commit] at h
    split at h <;> rename_i hh <;> (repeat' split at hh) <;> cases hh <;> cases h
    all_goals first
      | exact .raised _ (by simp) rfl
      | exact .moved ⟨rfl,rfl,rfl,rfl,rfl,rfl,rfl,rfl,rfl,rfl,rfl,rfl,rfl,rfl,rfl,rfl,rfl,rfl, le_alignUp_add _ _⟩ (Or.inl (by simp))
  case gzipHdr id1 id2 cm flg _ _ _ =>
    simp only [exec, execGzipHdr, commit] at h
    split at h <;> rename_i hh <;> (repeat' split at hh) <;> cases hh <;> cases h
    all_goals first
      | exact .raised _ (by simp) rfl
      | refine .moved ⟨rfl,rfl,rfl,rfl,rfl,rfl,rfl,rfl,rfl,rfl,rfl,rfl,rfl,rfl,rfl,rfl,rfl,rfl, le_alignUp_add _ _⟩ (Or.inl ?_)
    rcases gzAfterHdr_cases flg with e | e | e | e | e <;> simp [e]
  case gzipExtra p =>
    have key : ∀ x : State, Quiet x (extraStep x) ∧ ((extraStep x).phase ≠ .error ∨ (extraStep x).phase = x.phase) := by
      intro x
      unfold extraStep
      split
      · refine ⟨⟨rfl,rfl,rfl,rfl,rfl,rfl,rfl,rfl,rfl,rfl,rfl,rfl,rfl,rfl,rfl,rfl,rfl,rfl, Nat.le_refl _⟩, Or.inl ?_⟩
        simp only [gzAfterExtra, gzAfterName, gzAfterComment]; (repeat' split) <;> simp
      · exact ⟨⟨rfl,rfl,rfl,rfl,rfl,rfl,rfl,rfl,rfl,rfl,rfl,rfl,rfl,rfl,rfl,rfl,rfl,rfl, Nat.le_refl _⟩, Or.inr rfl⟩
    cases p <;> (simp only [exec, execGzipExtra, commit] at h; cases h)
    · obtain ⟨q, r⟩ := key { advanceAligned 16 s with xlen := _, xlenValid := true }
      exact .moved ⟨q.1,q.2,q.3,q.4,q.5,q.6,q.7,q.8,q.9,q.10,q.11,q.12,q.13,q.14,q.15,q.16,q.17,q.18, Nat.le_trans (le_alignUp_add s.pc 16) q.19⟩ r
    · obtain ⟨q, r⟩ := key { advanceAligned 8 s with xlen := s.xlen - 1 }
      exact .moved ⟨q.1,q.2,q.3,q.4,q.5,q.6,q.7,q.8,q.9,q.10,q.11,q.12,q.13,q.14,q.15,q.16,q.17,q.18, Nat.le_trans (le_alignUp_add s.pc 8) q.19⟩ r
  case gzipName b =>
    cases h
    refine .moved ⟨rfl,rfl,rfl,rfl,rfl,rfl,rfl,rfl,rfl,rfl,rfl,rfl,rfl,rfl,rfl,rfl,rfl,rfl, le_alignUp_add _ _⟩ ?_
    simp only [gzAfterName, gzAfterComment]; (repeat' split) <;> simp
  case gzipComment b =>
    cases h
    refine .moved ⟨rfl,rfl,rfl,rfl,rfl,rfl,rfl,rfl,rfl,rfl,rfl,rfl,rfl,rfl,rfl,rfl,rfl,rfl, le_alignUp_add _ _⟩ ?_
    simp only [gzAfterComment]; (repeat' split) <;> simp
  case gzipHcrc b =>
    cases h
    exact .moved ⟨rfl,rfl,rfl,rfl,rfl,rfl,rfl,rfl,rfl,rfl,rfl,rfl,rfl,rfl,rfl,rfl,rfl,rfl, le_alignUp_add _ _⟩ (by simp)
  case gzipTrailer c n =>
    simp only [exec, execGzipTrailer, commit] at h
    split at h <;> rename_i hh <;> (repeat' split at hh) <;> cases hh <;> cases h
    all_goals first
      | exact .raised _ (by simp) rfl
      | exact .moved ⟨rfl,rfl,rfl,rfl,rfl,rfl,rfl,rfl,rfl,rfl,rfl,rfl,rfl,rfl,rfl,rfl,rfl,rfl, le_alignUp_add _ _⟩ (Or.inl (by simp))
  case blkStored | blkFixed | blkDynamic | dynHdr =>
    cases h
    exact .moved ⟨rfl,rfl,rfl,rfl,rfl,rfl,rfl,rfl,rfl,rfl,rfl,rfl,rfl,rfl,rfl,rfl,rfl,rfl, Nat.le_add_right _ _⟩ (by simp)
  case blkReserved | ll286 | ll287 | dist30 | dist31 =>
    cases h
    exact .raised _ (by simp) rfl
  case storedHdr =>
    simp only [exec, execStoredHdr, commit] at h
    split at h <;> rename_i hh <;> split at hh <;> cases hh <;> cases h
    · refine .moved ⟨rfl,rfl,rfl,rfl,rfl,rfl,rfl,rfl,rfl,rfl,rfl,rfl,rfl,rfl,rfl,rfl,rfl,rfl, le_alignUp_add _ _⟩ (Or.inl ?_)
      dsimp only; split
      · exact afterBlock_ne_error s
      · simp
    · exact .raised _ (by simp) rfl
  case storedByte b =>
    rcases emit_eq b (advance 8 s) with ⟨k, e⟩ | ⟨k, e⟩
    · simp only [exec, execStoredByte, commit, e, andThen_done] at h
      cases h
      refine .emittedByte b 8 _ _ ?_ rfl
      split
      · exact Or.inl (afterBlock_ne_error _)
      · exact Or.inr rfl
    · simp only [exec, execStoredByte, commit, e, andThen_hold] at h
      cases h; exact .held rfl k
  case lit b =>
    rcases emit_eq b (advance (llBits b.toNat s) s) with ⟨k, e⟩ | ⟨k, e⟩
    · simp only [exec, execLit, commit, e] at h
      cases h
      exact .emittedByte b _ s.slen _ (Or.inr rfl) rfl
    · simp only [exec, execLit, commit, e] at h
      cases h; exact .held rfl k
  case dynCllen v =>
    simp only [exec, execDynCllen, commit] at h
    cases h
    split
    · exact .moved ⟨rfl,rfl,rfl,rfl,rfl,rfl,rfl,rfl,rfl,rfl,rfl,rfl,rfl,rfl,rfl,rfl,rfl,rfl, Nat.le_add_right _ _⟩ (by simp)
    · exact .moved ⟨rfl,rfl,rfl,rfl,rfl,rfl,rfl,rfl,rfl,rfl,rfl,rfl,rfl,rfl,rfl,rfl,rfl,rfl, Nat.le_add_right _ _⟩ (by simp)
  case clRep16 e =>
    simp only [exec, execClRep16] at h
    by_cases h0 : s.lidx = 0
    · rw [commit_raise (e := .repeatWithoutPrevious) (by simp [h0])] at h; cases h
      exact .raised _ (by simp) rfl
    · refine did_coded 16 2 (entry s.lens (s.lidx.toNat - 1)) (3 + e.toNat) s t ?_
      simp only [commit, if_neg h0] at h ⊢
      exact h
  case eob =>
    cases h
    exact .moved ⟨rfl,rfl,rfl,rfl,rfl,rfl,rfl,rfl,rfl,rfl,rfl,rfl,rfl,rfl,rfl,rfl,rfl,rfl, Nat.le_add_right _ _⟩ (Or.inl (afterBlock_ne_error s))
  all_goals first
    | exact did_coded _ _ _ _ _ _ h
    | exact did_length _ _ _ _ _ _ h
    | exact did_dist _ _ _ _ _ h

end Sys2Proof.Machine
end

