-- ==== Sys2Proof/Laws/Memory.lean ====
section
/-! SUPPORT. The window memory: its canonical form, and read after write (20_memory R64). -/

namespace Sys2Proof.Machine

/-- The canonical form of a memory whose addresses all lie above `lo`. -/
def Memory.above (lo : Nat) (m : Memory) : Prop := ∀ c ∈ m, lo < c.1

theorem Memory.wf_cons {c : Host.Cell} {m : Memory} :
    Memory.wf (c :: m) = true ↔ c.1 < 2 ^ Config.windowBitsMax ∧ Memory.above c.1 m ∧ Memory.wf m = true := by
  induction m generalizing c with
  | nil => simp [Memory.wf, Memory.above]
  | cons d m ih =>
    simp only [Memory.wf, Bool.and_eq_true, decide_eq_true_eq, Memory.above, List.mem_cons]
    constructor
    · rintro ⟨h, w⟩
      obtain ⟨h1, h2, h3⟩ := ih.1 w
      refine ⟨by omega, ?_, w⟩
      rintro e (rfl | he)
      · exact h
      · have := h2 e he; omega
    · rintro ⟨_, h, w⟩
      exact ⟨h d (Or.inl rfl), w⟩

theorem Memory.above_insertCell {lo a : Nat} {b : Byte} (ha : lo < a) {m : Memory} (h : Memory.above lo m) :
    Memory.above lo (Memory.insertCell a b m) := by
  induction m with
  | nil => simpa [Memory.insertCell, Memory.above] using ha
  | cons c m ih =>
    have hc : lo < c.1 := h c (by simp)
    have hm : Memory.above lo m := fun e he => h e (by simp [he])
    unfold Memory.insertCell
    split
    · rintro e he
      rcases List.mem_cons.1 he with rfl | he
      · exact ha
      · exact h e he
    · split
      · rintro e he
        rcases List.mem_cons.1 he with rfl | he
        · exact ha
        · exact hm e he
      · rintro e he
        rcases List.mem_cons.1 he with rfl | he
        · exact hc
        · exact ih hm e he

/-- Inserting a cell that exists keeps the canonical form. -/
theorem Memory.wf_insertCell {a : Nat} {b : Byte} (ha : a < 2 ^ Config.windowBitsMax) {m : Memory}
    (h : Memory.wf m = true) : Memory.wf (Memory.insertCell a b m) = true := by
  induction m with
  | nil => simpa [Memory.insertCell, Memory.wf] using ha
  | cons c m ih =>
    obtain ⟨h1, h2, h3⟩ := Memory.wf_cons.1 h
    unfold Memory.insertCell
    split
    · rename_i hlt
      refine Memory.wf_cons.2 ⟨ha, ?_, h⟩
      intro e he
      rcases List.mem_cons.1 he with rfl | he
      · exact hlt
      · have := h2 e he; omega
    · split
      · rename_i heq
        exact Memory.wf_cons.2 ⟨ha, by rw [← heq]; exact h2, h3⟩
      · exact Memory.wf_cons.2 ⟨h1, Memory.above_insertCell (by omega) h2, ih h3⟩

/-- A write keeps the canonical form. -/
theorem Memory.wf_write {m : Memory} (h : Memory.wf m = true) (addr : BitVec 15) (b : Byte) :
    Memory.wf (m.write addr b) = true :=
  Memory.wf_insertCell (by simpa [Config.windowBitsMax] using addr.isLt) h

/-- The memory after reset is in canonical form. -/
theorem reset_win_wf : Memory.wf State.reset.win = true := rfl

theorem Memory.find_insertCell_same (a : Nat) (b : Byte) (m : Memory) :
    (Memory.insertCell a b m).find? (fun c => c.1 = a) = some (a, b) := by
  induction m with
  | nil => simp [Memory.insertCell]
  | cons c m ih =>
    unfold Memory.insertCell
    split
    · simp
    · split
      · simp
      · rename_i h
        rw [List.find?_cons_of_neg (by simpa using h), ih]

theorem Memory.find_insertCell_other {a k : Nat} (h : k ≠ a) (b : Byte) (m : Memory) :
    (Memory.insertCell a b m).find? (fun c => c.1 = k) = m.find? (fun c => c.1 = k) := by
  have hk : ¬a = k := fun e => h e.symm
  induction m with
  | nil => simp [Memory.insertCell, hk]
  | cons c m ih =>
    unfold Memory.insertCell
    split
    · rw [List.find?_cons_of_neg (by simpa using hk)]
    · split
      · rename_i heq
        rw [List.find?_cons_of_neg (by simpa using hk), List.find?_cons_of_neg (by simpa [heq] using hk)]
      · simp only [List.find?_cons, ih]

/-- A read of the cell just written gives the byte written (R64). -/
@[simp] theorem Memory.read_write_same (m : Memory) (addr : BitVec 15) (b : Byte) :
    (m.write addr b).read addr = some b := by
  simp [Memory.read, Memory.write, Memory.find_insertCell_same]

/-- A write leaves every other cell alone (R64). -/
theorem Memory.read_write_other (m : Memory) {addr k : BitVec 15} (h : k ≠ addr) (b : Byte) :
    (m.write addr b).read k = m.read k := by
  have : k.toNat ≠ addr.toNat := fun e => h (BitVec.eq_of_toNat_eq e)
  simp [Memory.read, Memory.write, Memory.find_insertCell_other this]

end Sys2Proof.Machine
end

