-- ==== Sys2Proof/Laws/PerInstr.lean ====
section
/-! SUPPORT. What is said of every element, one lemma for each constructor. -/

namespace Sys2Proof.Laws

open Sys2Proof.Machine

/-- An element is encoded only in its own phase (10_state R25); a `DISTnn` row has none (log 13). -/
def EncodedInPhase.Statement (i : Instr) : Prop :=
  ∀ (x : DecodeCtx) (pos : Nat) (bits : List Bool), encode x pos i = some bits → i.phase = none ∨ i.phase = some x.phase

theorem encodedInPhase_of_phase {i : Instr} {p : Phase} (hp : i.phase = some p) : EncodedInPhase.Statement i := by
  intro x pos bits h
  simp only [encode, hp] at h
  split at h
  · rename_i e
    exact Or.inr (by rw [hp, e])
  · cases h

theorem encodedInPhase_of_none {i : Instr} (hp : i.phase = none) : EncodedInPhase.Statement i := fun _ _ _ _ => Or.inl hp

theorem EncodedInPhase.zlibHdr (cmf : Byte) (flg : Byte) :
    EncodedInPhase.Statement (.zlibHdr cmf flg) := encodedInPhase_of_phase rfl
theorem EncodedInPhase.zlibTrailer (adler : BitVec 32) :
    EncodedInPhase.Statement (.zlibTrailer adler) := encodedInPhase_of_phase rfl
theorem EncodedInPhase.gzipHdr (id1 : Byte) (id2 : Byte) (cm : Byte) (flg : Byte) (mtime : BitVec 32) (xfl : Byte) (os : Byte) :
    EncodedInPhase.Statement (.gzipHdr id1 id2 cm flg mtime xfl os) := encodedInPhase_of_phase rfl
theorem EncodedInPhase.gzipExtra (part : ExtraPart) :
    EncodedInPhase.Statement (.gzipExtra part) := encodedInPhase_of_phase rfl
theorem EncodedInPhase.gzipName (b : Byte) : EncodedInPhase.Statement (.gzipName b) := encodedInPhase_of_phase rfl
theorem EncodedInPhase.gzipComment (b : Byte) : EncodedInPhase.Statement (.gzipComment b) := encodedInPhase_of_phase rfl
theorem EncodedInPhase.gzipHcrc (v : BitVec 16) : EncodedInPhase.Statement (.gzipHcrc v) := encodedInPhase_of_phase rfl
theorem EncodedInPhase.gzipTrailer (crc : BitVec 32) (isize : BitVec 32) :
    EncodedInPhase.Statement (.gzipTrailer crc isize) := encodedInPhase_of_phase rfl
theorem EncodedInPhase.blkStored (final : Bool) :
    EncodedInPhase.Statement (.blkStored final) := encodedInPhase_of_phase rfl
theorem EncodedInPhase.blkFixed (final : Bool) :
    EncodedInPhase.Statement (.blkFixed final) := encodedInPhase_of_phase rfl
theorem EncodedInPhase.blkDynamic (final : Bool) :
    EncodedInPhase.Statement (.blkDynamic final) := encodedInPhase_of_phase rfl
theorem EncodedInPhase.blkReserved (final : Bool) :
    EncodedInPhase.Statement (.blkReserved final) := encodedInPhase_of_phase rfl
theorem EncodedInPhase.storedHdr (len : BitVec 16) (nlen : BitVec 16) :
    EncodedInPhase.Statement (.storedHdr len nlen) := encodedInPhase_of_phase rfl
theorem EncodedInPhase.storedByte (b : Byte) : EncodedInPhase.Statement (.storedByte b) := encodedInPhase_of_phase rfl
theorem EncodedInPhase.dynHdr (hlit : BitVec 5) (hdist : BitVec 5) (hclen : BitVec 4) :
    EncodedInPhase.Statement (.dynHdr hlit hdist hclen) := encodedInPhase_of_phase rfl
theorem EncodedInPhase.dynCllen (v : BitVec 3) : EncodedInPhase.Statement (.dynCllen v) := encodedInPhase_of_phase rfl
theorem EncodedInPhase.clLen0 : EncodedInPhase.Statement (.clLen0) := encodedInPhase_of_phase rfl
theorem EncodedInPhase.clLen1 : EncodedInPhase.Statement (.clLen1) := encodedInPhase_of_phase rfl
theorem EncodedInPhase.clLen2 : EncodedInPhase.Statement (.clLen2) := encodedInPhase_of_phase rfl
theorem EncodedInPhase.clLen3 : EncodedInPhase.Statement (.clLen3) := encodedInPhase_of_phase rfl
theorem EncodedInPhase.clLen4 : EncodedInPhase.Statement (.clLen4) := encodedInPhase_of_phase rfl
theorem EncodedInPhase.clLen5 : EncodedInPhase.Statement (.clLen5) := encodedInPhase_of_phase rfl
theorem EncodedInPhase.clLen6 : EncodedInPhase.Statement (.clLen6) := encodedInPhase_of_phase rfl
theorem EncodedInPhase.clLen7 : EncodedInPhase.Statement (.clLen7) := encodedInPhase_of_phase rfl
theorem EncodedInPhase.clLen8 : EncodedInPhase.Statement (.clLen8) := encodedInPhase_of_phase rfl
theorem EncodedInPhase.clLen9 : EncodedInPhase.Statement (.clLen9) := encodedInPhase_of_phase rfl
theorem EncodedInPhase.clLen10 : EncodedInPhase.Statement (.clLen10) := encodedInPhase_of_phase rfl
theorem EncodedInPhase.clLen11 : EncodedInPhase.Statement (.clLen11) := encodedInPhase_of_phase rfl
theorem EncodedInPhase.clLen12 : EncodedInPhase.Statement (.clLen12) := encodedInPhase_of_phase rfl
theorem EncodedInPhase.clLen13 : EncodedInPhase.Statement (.clLen13) := encodedInPhase_of_phase rfl
theorem EncodedInPhase.clLen14 : EncodedInPhase.Statement (.clLen14) := encodedInPhase_of_phase rfl
theorem EncodedInPhase.clLen15 : EncodedInPhase.Statement (.clLen15) := encodedInPhase_of_phase rfl
theorem EncodedInPhase.clRep16 (e : BitVec 2) : EncodedInPhase.Statement (.clRep16 e) := encodedInPhase_of_phase rfl
theorem EncodedInPhase.clZrep17 (e : BitVec 3) : EncodedInPhase.Statement (.clZrep17 e) := encodedInPhase_of_phase rfl
theorem EncodedInPhase.clZrep18 (e : BitVec 7) : EncodedInPhase.Statement (.clZrep18 e) := encodedInPhase_of_phase rfl
theorem EncodedInPhase.lit (b : Byte) : EncodedInPhase.Statement (.lit b) := encodedInPhase_of_phase rfl
theorem EncodedInPhase.eob : EncodedInPhase.Statement (.eob) := encodedInPhase_of_phase rfl
theorem EncodedInPhase.len257 (d : DistPart) : EncodedInPhase.Statement (.len257 d) := encodedInPhase_of_phase rfl
theorem EncodedInPhase.len258 (d : DistPart) : EncodedInPhase.Statement (.len258 d) := encodedInPhase_of_phase rfl
theorem EncodedInPhase.len259 (d : DistPart) : EncodedInPhase.Statement (.len259 d) := encodedInPhase_of_phase rfl
theorem EncodedInPhase.len260 (d : DistPart) : EncodedInPhase.Statement (.len260 d) := encodedInPhase_of_phase rfl
theorem EncodedInPhase.len261 (d : DistPart) : EncodedInPhase.Statement (.len261 d) := encodedInPhase_of_phase rfl
theorem EncodedInPhase.len262 (d : DistPart) : EncodedInPhase.Statement (.len262 d) := encodedInPhase_of_phase rfl
theorem EncodedInPhase.len263 (d : DistPart) : EncodedInPhase.Statement (.len263 d) := encodedInPhase_of_phase rfl
theorem EncodedInPhase.len264 (d : DistPart) : EncodedInPhase.Statement (.len264 d) := encodedInPhase_of_phase rfl
theorem EncodedInPhase.len265 (e : BitVec 1) (d : DistPart) :
    EncodedInPhase.Statement (.len265 e d) := encodedInPhase_of_phase rfl
theorem EncodedInPhase.len266 (e : BitVec 1) (d : DistPart) :
    EncodedInPhase.Statement (.len266 e d) := encodedInPhase_of_phase rfl
theorem EncodedInPhase.len267 (e : BitVec 1) (d : DistPart) :
    EncodedInPhase.Statement (.len267 e d) := encodedInPhase_of_phase rfl
theorem EncodedInPhase.len268 (e : BitVec 1) (d : DistPart) :
    EncodedInPhase.Statement (.len268 e d) := encodedInPhase_of_phase rfl
theorem EncodedInPhase.len269 (e : BitVec 2) (d : DistPart) :
    EncodedInPhase.Statement (.len269 e d) := encodedInPhase_of_phase rfl
theorem EncodedInPhase.len270 (e : BitVec 2) (d : DistPart) :
    EncodedInPhase.Statement (.len270 e d) := encodedInPhase_of_phase rfl
theorem EncodedInPhase.len271 (e : BitVec 2) (d : DistPart) :
    EncodedInPhase.Statement (.len271 e d) := encodedInPhase_of_phase rfl
theorem EncodedInPhase.len272 (e : BitVec 2) (d : DistPart) :
    EncodedInPhase.Statement (.len272 e d) := encodedInPhase_of_phase rfl
theorem EncodedInPhase.len273 (e : BitVec 3) (d : DistPart) :
    EncodedInPhase.Statement (.len273 e d) := encodedInPhase_of_phase rfl
theorem EncodedInPhase.len274 (e : BitVec 3) (d : DistPart) :
    EncodedInPhase.Statement (.len274 e d) := encodedInPhase_of_phase rfl
theorem EncodedInPhase.len275 (e : BitVec 3) (d : DistPart) :
    EncodedInPhase.Statement (.len275 e d) := encodedInPhase_of_phase rfl
theorem EncodedInPhase.len276 (e : BitVec 3) (d : DistPart) :
    EncodedInPhase.Statement (.len276 e d) := encodedInPhase_of_phase rfl
theorem EncodedInPhase.len277 (e : BitVec 4) (d : DistPart) :
    EncodedInPhase.Statement (.len277 e d) := encodedInPhase_of_phase rfl
theorem EncodedInPhase.len278 (e : BitVec 4) (d : DistPart) :
    EncodedInPhase.Statement (.len278 e d) := encodedInPhase_of_phase rfl
theorem EncodedInPhase.len279 (e : BitVec 4) (d : DistPart) :
    EncodedInPhase.Statement (.len279 e d) := encodedInPhase_of_phase rfl
theorem EncodedInPhase.len280 (e : BitVec 4) (d : DistPart) :
    EncodedInPhase.Statement (.len280 e d) := encodedInPhase_of_phase rfl
theorem EncodedInPhase.len281 (e : BitVec 5) (d : DistPart) :
    EncodedInPhase.Statement (.len281 e d) := encodedInPhase_of_phase rfl
theorem EncodedInPhase.len282 (e : BitVec 5) (d : DistPart) :
    EncodedInPhase.Statement (.len282 e d) := encodedInPhase_of_phase rfl
theorem EncodedInPhase.len283 (e : BitVec 5) (d : DistPart) :
    EncodedInPhase.Statement (.len283 e d) := encodedInPhase_of_phase rfl
theorem EncodedInPhase.len284 (e : BitVec 5) (d : DistPart) :
    EncodedInPhase.Statement (.len284 e d) := encodedInPhase_of_phase rfl
theorem EncodedInPhase.len285 (d : DistPart) : EncodedInPhase.Statement (.len285 d) := encodedInPhase_of_phase rfl
theorem EncodedInPhase.ll286 : EncodedInPhase.Statement (.ll286) := encodedInPhase_of_phase rfl
theorem EncodedInPhase.ll287 : EncodedInPhase.Statement (.ll287) := encodedInPhase_of_phase rfl
theorem EncodedInPhase.dist0 : EncodedInPhase.Statement (.dist0) := encodedInPhase_of_none rfl
theorem EncodedInPhase.dist1 : EncodedInPhase.Statement (.dist1) := encodedInPhase_of_none rfl
theorem EncodedInPhase.dist2 : EncodedInPhase.Statement (.dist2) := encodedInPhase_of_none rfl
theorem EncodedInPhase.dist3 : EncodedInPhase.Statement (.dist3) := encodedInPhase_of_none rfl
theorem EncodedInPhase.dist4 (e : BitVec 1) : EncodedInPhase.Statement (.dist4 e) := encodedInPhase_of_none rfl
theorem EncodedInPhase.dist5 (e : BitVec 1) : EncodedInPhase.Statement (.dist5 e) := encodedInPhase_of_none rfl
theorem EncodedInPhase.dist6 (e : BitVec 2) : EncodedInPhase.Statement (.dist6 e) := encodedInPhase_of_none rfl
theorem EncodedInPhase.dist7 (e : BitVec 2) : EncodedInPhase.Statement (.dist7 e) := encodedInPhase_of_none rfl
theorem EncodedInPhase.dist8 (e : BitVec 3) : EncodedInPhase.Statement (.dist8 e) := encodedInPhase_of_none rfl
theorem EncodedInPhase.dist9 (e : BitVec 3) : EncodedInPhase.Statement (.dist9 e) := encodedInPhase_of_none rfl
theorem EncodedInPhase.dist10 (e : BitVec 4) : EncodedInPhase.Statement (.dist10 e) := encodedInPhase_of_none rfl
theorem EncodedInPhase.dist11 (e : BitVec 4) : EncodedInPhase.Statement (.dist11 e) := encodedInPhase_of_none rfl
theorem EncodedInPhase.dist12 (e : BitVec 5) : EncodedInPhase.Statement (.dist12 e) := encodedInPhase_of_none rfl
theorem EncodedInPhase.dist13 (e : BitVec 5) : EncodedInPhase.Statement (.dist13 e) := encodedInPhase_of_none rfl
theorem EncodedInPhase.dist14 (e : BitVec 6) : EncodedInPhase.Statement (.dist14 e) := encodedInPhase_of_none rfl
theorem EncodedInPhase.dist15 (e : BitVec 6) : EncodedInPhase.Statement (.dist15 e) := encodedInPhase_of_none rfl
theorem EncodedInPhase.dist16 (e : BitVec 7) : EncodedInPhase.Statement (.dist16 e) := encodedInPhase_of_none rfl
theorem EncodedInPhase.dist17 (e : BitVec 7) : EncodedInPhase.Statement (.dist17 e) := encodedInPhase_of_none rfl
theorem EncodedInPhase.dist18 (e : BitVec 8) : EncodedInPhase.Statement (.dist18 e) := encodedInPhase_of_none rfl
theorem EncodedInPhase.dist19 (e : BitVec 8) : EncodedInPhase.Statement (.dist19 e) := encodedInPhase_of_none rfl
theorem EncodedInPhase.dist20 (e : BitVec 9) : EncodedInPhase.Statement (.dist20 e) := encodedInPhase_of_none rfl
theorem EncodedInPhase.dist21 (e : BitVec 9) : EncodedInPhase.Statement (.dist21 e) := encodedInPhase_of_none rfl
theorem EncodedInPhase.dist22 (e : BitVec 10) : EncodedInPhase.Statement (.dist22 e) := encodedInPhase_of_none rfl
theorem EncodedInPhase.dist23 (e : BitVec 10) : EncodedInPhase.Statement (.dist23 e) := encodedInPhase_of_none rfl
theorem EncodedInPhase.dist24 (e : BitVec 11) : EncodedInPhase.Statement (.dist24 e) := encodedInPhase_of_none rfl
theorem EncodedInPhase.dist25 (e : BitVec 11) : EncodedInPhase.Statement (.dist25 e) := encodedInPhase_of_none rfl
theorem EncodedInPhase.dist26 (e : BitVec 12) : EncodedInPhase.Statement (.dist26 e) := encodedInPhase_of_none rfl
theorem EncodedInPhase.dist27 (e : BitVec 12) : EncodedInPhase.Statement (.dist27 e) := encodedInPhase_of_none rfl
theorem EncodedInPhase.dist28 (e : BitVec 13) : EncodedInPhase.Statement (.dist28 e) := encodedInPhase_of_none rfl
theorem EncodedInPhase.dist29 (e : BitVec 13) : EncodedInPhase.Statement (.dist29 e) := encodedInPhase_of_none rfl
theorem EncodedInPhase.dist30 : EncodedInPhase.Statement (.dist30) := encodedInPhase_of_none rfl
theorem EncodedInPhase.dist31 : EncodedInPhase.Statement (.dist31) := encodedInPhase_of_none rfl

end Sys2Proof.Laws
end

