-- ==== Sys2Proof/Tests/Slice0.lean ====
section
/-! SUPPORT. The model's own tests: ill-formed terms, words written out from the spec's encodings, one step of each
instruction, and for each obligation with hypotheses a state and operands that meet them. Expected values are the spec's
examples. -/

namespace Sys2Proof.Tests

open Sys2Proof.Machine

set_option Elab.async false

/-- Stream bits, written as digits. -/
def bits (l : List Nat) : List Bool := l.map (· == 1)

/-- The tables of a fixed block. -/
def fixedCtx (p : Phase) : DecodeCtx :=
  ⟨p, false, false, [], lengthsOf (vecOf 288 fixedLlLen), lengthsOf (vecOf 32 fixedDLen)⟩

/-- A code-length table in which every symbol has a code: 0 to 12 the numbers 0000 to 1100, 13 to 18 the numbers 11010 to
11111 (41_huffman R142, R143, by hand). -/
def clCtx : DecodeCtx := ⟨.dynLens, false, true, [4, 4, 4, 4, 4, 4, 4, 4, 4, 4, 4, 4, 4, 5, 5, 5, 5, 5, 5], [], []⟩

/-- The bits decode to the element, and all of them are consumed. -/
def reads (x : DecodeCtx) (l : List Nat) (i : Instr) : Bool :=
  decide (decode x ⟨0, bits l⟩ = .ok i ⟨l.length, []⟩)

/-- The state after an instruction or a step; the reset state where it stops. -/
def after (o : Host.Outcome State Fault Refusal) : State :=
  match o with
  | .next t => t
  | .fault _ => State.reset
  | .refused _ => State.reset

/-- A state in a phase of an operation. -/
def at_ (p : Phase) : State := { State.reset with phase := p }

/-- In a fixed block, after one byte 0x61 has been emitted. -/
def fixedState : State := emitted 0x61 { after (exec (.blkFixed true) (at_ .blockHdr)) with wbits := 8 }

/-! ### Ill-formed terms (30_encoding R101, R207) -/

/-- A distance part whose extra bits do not fit its symbol. -/
def badDist : List DistPart := [⟨0, 1⟩, ⟨4, 2⟩, ⟨27, 4096⟩, ⟨30, 1⟩, ⟨31, 1⟩]

theorem test_distPart_refuses : badDist.map (fun d => d.wellFormed) = List.replicate 5 false := by decide
theorem test_distPart_accepts : (⟨28, 8191⟩ : DistPart).wellFormed = true := by decide

/-- Each length element with such a part. -/
def badLens : List Instr :=
  [.len257 ⟨0, 1⟩, .len258 ⟨0, 1⟩, .len259 ⟨0, 1⟩, .len260 ⟨0, 1⟩, .len261 ⟨0, 1⟩, .len262 ⟨0, 1⟩,
   .len263 ⟨0, 1⟩, .len264 ⟨0, 1⟩, .len265 0 ⟨0, 1⟩, .len266 0 ⟨0, 1⟩, .len267 0 ⟨0, 1⟩, .len268 0 ⟨0, 1⟩,
   .len269 0 ⟨0, 1⟩, .len270 0 ⟨0, 1⟩, .len271 0 ⟨0, 1⟩, .len272 0 ⟨0, 1⟩, .len273 0 ⟨0, 1⟩, .len274 0 ⟨0, 1⟩,
   .len275 0 ⟨0, 1⟩, .len276 0 ⟨0, 1⟩, .len277 0 ⟨0, 1⟩, .len278 0 ⟨0, 1⟩, .len279 0 ⟨0, 1⟩, .len280 0 ⟨0, 1⟩,
   .len281 0 ⟨0, 1⟩, .len282 0 ⟨0, 1⟩, .len283 0 ⟨0, 1⟩, .len284 0 ⟨0, 1⟩, .len285 ⟨0, 1⟩]

theorem test_len_refuses : badLens.map Instr.wellFormed = List.replicate 29 false := by decide

/-! ### Words written out from the spec's encodings -/

/-- 46_zlib_wrapper R301: 78 9C; 30_encoding R96. -/
theorem test_decode_zlibHdr : decode (fixedCtx .zlibHdr) ⟨0, bitsOfBytes [0x78, 0x9C]⟩ = .ok (.zlibHdr 0x78 0x9C) ⟨16, []⟩ := by
  decide +kernel
/-- 46_zlib_wrapper R303: 1C 49 04 3E after 3 pad bits. -/
theorem test_decode_zlibTrailer :
    decode (fixedCtx .zlibTrailer) ⟨5, bits [1, 0, 1] ++ bitsOfBytes [0x1C, 0x49, 0x04, 0x3E]⟩ =
      .ok (.zlibTrailer 0x1C49043E) ⟨40, []⟩ := by decide +kernel
/-- 47_gzip_wrapper R316, with distinct field bytes. -/
theorem test_decode_gzipHdr :
    decode (fixedCtx .gzipHdr) ⟨0, bitsOfBytes [0x1F, 0x8B, 0x08, 0x1E, 0x01, 0x02, 0x03, 0x04, 0x05, 0x06]⟩ =
      .ok (.gzipHdr 0x1F 0x8B 8 0x1E 0x04030201 5 6) ⟨80, []⟩ := by decide +kernel
/-- 47_gzip_wrapper R318: 03 00 AA. -/
theorem test_decode_gzipExtra :
    decode (fixedCtx .gzipExtra) ⟨80, bitsOfBytes [0x03, 0x00]⟩ = .ok (.gzipExtra (.lengthField 3)) ⟨96, []⟩ ∧
    decode { fixedCtx .gzipExtra with xlenValid := true } ⟨96, bitsOfBytes [0xAA]⟩ =
      .ok (.gzipExtra (.payload 0xAA)) ⟨104, []⟩ := by decide +kernel
/-- 47_gzip_wrapper R319 to R321: 61; 68; DE AD. -/
theorem test_decode_gzipParts :
    decode (fixedCtx .gzipName) ⟨80, bitsOfBytes [0x61]⟩ = .ok (.gzipName 0x61) ⟨88, []⟩ ∧
    decode (fixedCtx .gzipComment) ⟨80, bitsOfBytes [0x68]⟩ = .ok (.gzipComment 0x68) ⟨88, []⟩ ∧
    decode (fixedCtx .gzipHcrc) ⟨80, bitsOfBytes [0xDE, 0xAD]⟩ = .ok (.gzipHcrc 0xADDE) ⟨96, []⟩ := by decide +kernel
/-- 47_gzip_wrapper R323: A3 1C 29 1C 0C 00 00 00. -/
theorem test_decode_gzipTrailer :
    decode (fixedCtx .gzipTrailer) ⟨0, bitsOfBytes [0xA3, 0x1C, 0x29, 0x1C, 0x0C, 0x00, 0x00, 0x00]⟩ =
      .ok (.gzipTrailer 0x1C291CA3 12) ⟨64, []⟩ := by decide +kernel
/-- 30_encoding R92: F00, F10, F01, F11. -/
theorem test_decode_blockHdr :
    reads (fixedCtx .blockHdr) [1, 0, 0] (.blkStored true) = true ∧
    reads (fixedCtx .blockHdr) [0, 1, 0] (.blkFixed false) = true ∧
    reads (fixedCtx .blockHdr) [1, 0, 1] (.blkDynamic true) = true ∧
    reads (fixedCtx .blockHdr) [0, 1, 1] (.blkReserved false) = true := by decide +kernel
/-- 43_deflate_blocks R178: 01 05 00 FA FF, from bit 3 on. -/
theorem test_decode_storedHdr :
    decode (fixedCtx .storedHdr) ⟨3, bits [0, 0, 0, 0, 0] ++ bitsOfBytes [0x05, 0x00, 0xFA, 0xFF]⟩ =
      .ok (.storedHdr 5 0xFFFA) ⟨40, []⟩ := by decide +kernel
/-- 43_deflate_blocks R179: 48. -/
theorem test_decode_storedByte :
    reads (fixedCtx .storedCopy) [0, 0, 0, 1, 0, 0, 1, 0] (.storedByte 0x48) = true := by decide +kernel
/-- 43_deflate_blocks R182, its example: HLIT 286, HDIST 30, HCLEN 18. -/
theorem test_decode_dynHdr :
    reads (fixedCtx .dynHdr) [1, 0, 1, 1, 1, 1, 0, 1, 1, 1, 0, 1, 1, 1] (.dynHdr 29 29 14) = true := by decide +kernel
/-- 43_deflate_blocks R183, its example: the third value. -/
theorem test_decode_dynCllen : reads (fixedCtx .dynCllen) [1, 1, 0] (.dynCllen 3) = true := by decide +kernel

/-- 43_deflate_blocks R185 to R188: each code-length symbol, with the extra bits of the examples. -/
def clWords : List (List Nat × Instr) :=
  [([0, 0, 0, 0], .clLen0), ([0, 0, 0, 1], .clLen1), ([0, 0, 1, 0], .clLen2), ([0, 0, 1, 1], .clLen3),
   ([0, 1, 0, 0], .clLen4), ([0, 1, 0, 1], .clLen5), ([0, 1, 1, 0], .clLen6), ([0, 1, 1, 1], .clLen7),
   ([1, 0, 0, 0], .clLen8), ([1, 0, 0, 1], .clLen9), ([1, 0, 1, 0], .clLen10), ([1, 0, 1, 1], .clLen11),
   ([1, 1, 0, 0], .clLen12), ([1, 1, 0, 1, 0], .clLen13), ([1, 1, 0, 1, 1], .clLen14), ([1, 1, 1, 0, 0], .clLen15),
   ([1, 1, 1, 0, 1, 1, 0], .clRep16 1), ([1, 1, 1, 1, 0, 1, 1, 1], .clZrep17 7), ([1, 1, 1, 1, 1, 1, 1, 1, 0, 0, 0, 1], .clZrep18 71)]

theorem test_decode_codeLengths : clWords.all (fun p => reads clCtx p.1 p.2) = true := by decide +kernel
/-- 43_deflate_blocks R186: with no previous length the extra bits of symbol 16 are not read. -/
theorem test_decode_clRep16_first :
    decode { clCtx with hasPrevious := false } ⟨0, bits [1, 1, 1, 0, 1, 1, 1]⟩ = .ok (.clRep16 0) ⟨5, bits [1, 1]⟩ := by
  decide +kernel

/-- 44_deflate_symbols R202, R203, R206 with the fixed codes of 30_encoding R103. -/
theorem test_decode_symbols :
    reads (fixedCtx .symbol) [1, 0, 0, 1, 0, 0, 0, 1] (.lit 0x61) = true ∧
    reads (fixedCtx .symbol) [1, 1, 0, 0, 1, 0, 0, 0, 0] (.lit 144) = true ∧
    reads (fixedCtx .symbol) [0, 0, 0, 0, 0, 0, 0] .eob = true ∧
    reads (fixedCtx .symbol) [1, 1, 0, 0, 0, 1, 1, 0] .ll286 = true ∧
    reads (fixedCtx .symbol) [1, 1, 0, 0, 0, 1, 1, 1] .ll287 = true := by decide +kernel

/-- 44_deflate_symbols R210 to R238: the fixed code of each length symbol, the extra bits of its example, distance symbol 0. -/
def lenWords : List (List Nat × Instr) :=
  [([0, 0, 0, 0, 0, 0, 1, 0, 0, 0, 0, 0], .len257 ⟨0, 0⟩), ([0, 0, 0, 0, 0, 1, 0, 0, 0, 0, 0, 0], .len258 ⟨0, 0⟩),
   ([0, 0, 0, 0, 0, 1, 1, 0, 0, 0, 0, 0], .len259 ⟨0, 0⟩), ([0, 0, 0, 0, 1, 0, 0, 0, 0, 0, 0, 0], .len260 ⟨0, 0⟩),
   ([0, 0, 0, 0, 1, 0, 1, 0, 0, 0, 0, 0], .len261 ⟨0, 0⟩), ([0, 0, 0, 0, 1, 1, 0, 0, 0, 0, 0, 0], .len262 ⟨0, 0⟩),
   ([0, 0, 0, 0, 1, 1, 1, 0, 0, 0, 0, 0], .len263 ⟨0, 0⟩), ([0, 0, 0, 1, 0, 0, 0, 0, 0, 0, 0, 0], .len264 ⟨0, 0⟩),
   ([0, 0, 0, 1, 0, 0, 1, 1, 0, 0, 0, 0, 0], .len265 1 ⟨0, 0⟩), ([0, 0, 0, 1, 0, 1, 0, 1, 0, 0, 0, 0, 0], .len266 1 ⟨0, 0⟩),
   ([0, 0, 0, 1, 0, 1, 1, 1, 0, 0, 0, 0, 0], .len267 1 ⟨0, 0⟩), ([0, 0, 0, 1, 1, 0, 0, 1, 0, 0, 0, 0, 0], .len268 1 ⟨0, 0⟩),
   ([0, 0, 0, 1, 1, 0, 1, 1, 1, 0, 0, 0, 0, 0], .len269 3 ⟨0, 0⟩), ([0, 0, 0, 1, 1, 1, 0, 1, 1, 0, 0, 0, 0, 0], .len270 3 ⟨0, 0⟩),
   ([0, 0, 0, 1, 1, 1, 1, 1, 1, 0, 0, 0, 0, 0], .len271 3 ⟨0, 0⟩), ([0, 0, 1, 0, 0, 0, 0, 1, 1, 0, 0, 0, 0, 0], .len272 3 ⟨0, 0⟩),
   ([0, 0, 1, 0, 0, 0, 1, 1, 0, 1, 0, 0, 0, 0, 0], .len273 5 ⟨0, 0⟩), ([0, 0, 1, 0, 0, 1, 0, 1, 0, 1, 0, 0, 0, 0, 0], .len274 5 ⟨0, 0⟩),
   ([0, 0, 1, 0, 0, 1, 1, 1, 0, 1, 0, 0, 0, 0, 0], .len275 5 ⟨0, 0⟩), ([0, 0, 1, 0, 1, 0, 0, 1, 0, 1, 0, 0, 0, 0, 0], .len276 5 ⟨0, 0⟩),
   ([0, 0, 1, 0, 1, 0, 1, 1, 0, 0, 1, 0, 0, 0, 0, 0], .len277 9 ⟨0, 0⟩), ([0, 0, 1, 0, 1, 1, 0, 1, 0, 0, 1, 0, 0, 0, 0, 0], .len278 9 ⟨0, 0⟩),
   ([0, 0, 1, 0, 1, 1, 1, 1, 0, 0, 1, 0, 0, 0, 0, 0], .len279 9 ⟨0, 0⟩), ([1, 1, 0, 0, 0, 0, 0, 0, 1, 0, 0, 1, 0, 0, 0, 0, 0], .len280 9 ⟨0, 0⟩),
   ([1, 1, 0, 0, 0, 0, 0, 1, 1, 0, 0, 0, 1, 0, 0, 0, 0, 0], .len281 17 ⟨0, 0⟩), ([1, 1, 0, 0, 0, 0, 1, 0, 1, 0, 0, 0, 1, 0, 0, 0, 0, 0], .len282 17 ⟨0, 0⟩),
   ([1, 1, 0, 0, 0, 0, 1, 1, 1, 0, 0, 0, 1, 0, 0, 0, 0, 0], .len283 17 ⟨0, 0⟩), ([1, 1, 0, 0, 0, 1, 0, 0, 1, 0, 0, 0, 1, 0, 0, 0, 0, 0], .len284 17 ⟨0, 0⟩),
   ([1, 1, 0, 0, 0, 1, 0, 1, 0, 0, 0, 0, 0], .len285 ⟨0, 0⟩)]

theorem test_decode_lengths_low : (lenWords.take 15).all (fun p => reads (fixedCtx .symbol) p.1 p.2) = true := by
  decide +kernel
theorem test_decode_lengths_high : (lenWords.drop 15).all (fun p => reads (fixedCtx .symbol) p.1 p.2) = true := by
  decide +kernel

/-- 44_deflate_symbols R240 to R269, R207: the fixed code of each distance symbol and the extra bits of its example. -/
def distWords : List (List Nat × Instr) :=
  [([0, 0, 0, 0, 0], .dist0), ([0, 0, 0, 0, 1], .dist1),
   ([0, 0, 0, 1, 0], .dist2), ([0, 0, 0, 1, 1], .dist3),
   ([0, 0, 1, 0, 0, 1], .dist4 1), ([0, 0, 1, 0, 1, 1], .dist5 1),
   ([0, 0, 1, 1, 0, 1, 1], .dist6 3), ([0, 0, 1, 1, 1, 1, 1], .dist7 3),
   ([0, 1, 0, 0, 0, 1, 0, 1], .dist8 5), ([0, 1, 0, 0, 1, 1, 0, 1], .dist9 5),
   ([0, 1, 0, 1, 0, 1, 0, 0, 1], .dist10 9), ([0, 1, 0, 1, 1, 1, 0, 0, 1], .dist11 9),
   ([0, 1, 1, 0, 0, 1, 0, 0, 0, 1], .dist12 17), ([0, 1, 1, 0, 1, 1, 0, 0, 0, 1], .dist13 17),
   ([0, 1, 1, 1, 0, 1, 0, 0, 0, 0, 1], .dist14 33), ([0, 1, 1, 1, 1, 1, 0, 0, 0, 0, 1], .dist15 33),
   ([1, 0, 0, 0, 0, 1, 0, 0, 0, 0, 0, 1], .dist16 65), ([1, 0, 0, 0, 1, 1, 0, 0, 0, 0, 0, 1], .dist17 65),
   ([1, 0, 0, 1, 0, 1, 0, 0, 0, 0, 0, 0, 1], .dist18 129), ([1, 0, 0, 1, 1, 1, 0, 0, 0, 0, 0, 0, 1], .dist19 129),
   ([1, 0, 1, 0, 0, 1, 0, 0, 0, 0, 0, 0, 0, 1], .dist20 257), ([1, 0, 1, 0, 1, 1, 0, 0, 0, 0, 0, 0, 0, 1], .dist21 257),
   ([1, 0, 1, 1, 0, 1, 0, 0, 0, 0, 0, 0, 0, 0, 1], .dist22 513), ([1, 0, 1, 1, 1, 1, 0, 0, 0, 0, 0, 0, 0, 0, 1], .dist23 513),
   ([1, 1, 0, 0, 0, 1, 0, 0, 0, 0, 0, 0, 0, 0, 0, 1], .dist24 1025), ([1, 1, 0, 0, 1, 1, 0, 0, 0, 0, 0, 0, 0, 0, 0, 1], .dist25 1025),
   ([1, 1, 0, 1, 0, 1, 0, 0, 0, 0, 0, 0, 0, 0, 0, 0, 1], .dist26 2049), ([1, 1, 0, 1, 1, 1, 0, 0, 0, 0, 0, 0, 0, 0, 0, 0, 1], .dist27 2049),
   ([1, 1, 1, 0, 0, 1, 0, 0, 0, 0, 0, 0, 0, 0, 0, 0, 0, 1], .dist28 4097), ([1, 1, 1, 0, 1, 1, 0, 0, 0, 0, 0, 0, 0, 0, 0, 0, 0, 1], .dist29 4097),
   ([1, 1, 1, 1, 0], .dist30), ([1, 1, 1, 1, 1], .dist31)]

/-- Each distance row as an element of its own. -/
theorem test_decode_distances :
    distWords.all (fun p => decide (decodeDistElement (fixedCtx .symbol) ⟨0, bits p.1⟩ = .ok p.2 ⟨p.1.length, []⟩)) = true := by
  decide +kernel
/-- The same inside a length element, for symbols 5, 29 and 30. -/
theorem test_decode_distance_parts :
    reads (fixedCtx .symbol) [0, 0, 0, 0, 0, 0, 1, 0, 0, 1, 0, 1, 1] (.len257 ⟨5, 1⟩) = true ∧
    reads (fixedCtx .symbol) [0, 0, 0, 0, 0, 0, 1, 1, 1, 1, 0, 1, 1, 0, 0, 0, 0, 0, 0, 0, 0, 0, 0, 0, 1] (.len257 ⟨29, 4097⟩) = true ∧
    reads (fixedCtx .symbol) [0, 0, 0, 0, 0, 0, 1, 1, 1, 1, 1, 0] (.len257 ⟨30, 0⟩) = true := by decide +kernel

/-- The opcode table's words: CMF*256 + FLG, the first gzip bytes in stream order, the block header number v. -/
theorem test_tableWords :
    decodeTableWord 16 0x789C = some (.zlibHdr 0x78 0x9C) ∧
    decodeTableWord 24 0x1F8B08 = some (.gzipHdr 0x1F 0x8B 8 0 0 0 0) ∧ decodeTableWord 8 0 = some (.blkStored false) ∧
    decodeTableWord 8 2 = some (.blkFixed false) ∧ decodeTableWord 8 5 = some (.blkDynamic true) ∧
    decodeTableWord 8 6 = some (.blkReserved false) := by decide +kernel

/-- The word placed is the one the next step runs. -/
theorem test_withFetchWord :
    (after (step (State.reset.withFetchWord 16 0x789C))).wbits = 15 ∧
    (after (step (State.reset.withFetchWord 16 0x789C))).phase = .blockHdr ∧
    (after (step (State.reset.withFetchWord 24 0x1F8B08))).pc = 80 ∧
    (after (step (State.reset.withFetchWord 8 6))).errSub = .blockType3 := by decide +kernel

/-! ### One step of each instruction -/

/-- R301: 78 9C is accepted with WBITS 15; the order of the tests: 79 00, 88 00, 78 00, 78 BB. -/
theorem test_zlibHdr :
    (let t := after (exec (.zlibHdr 0x78 0x9C) (at_ .zlibHdr)); (t.wbits, t.pc, t.phase)) = (15, 16, .blockHdr) ∧
    ([(0x79, 0x00), (0x88, 0x00), (0x78, 0x00), (0x78, 0xBB)].map fun p : Byte × Byte =>
      (after (exec (.zlibHdr p.1 p.2) (at_ .zlibHdr))).errSub) = [.zlibMethod, .zlibWindow, .zlibFcheck, .zlibPresetDict] := by
  decide +kernel
/-- R303, R283: the Adler32 of nothing is 1. -/
theorem test_zlibTrailer :
    (after (exec (.zlibTrailer 1) { at_ .zlibTrailer with pc := 42 })).pc = 80 ∧
    (after (exec (.zlibTrailer 1) (at_ .zlibTrailer))).phase = .done ∧
    (after (exec (.zlibTrailer 2) (at_ .zlibTrailer))).errSub = .adler32 := by decide +kernel
/-- R316, R317: GFLG = 0x1E goes to EXTRA, 0x0A to NAME, 0 to BLOCK_HDR; 50 4B faults by its magic, 1F 8B 09 by its method. -/
theorem test_gzipHdr :
    (([0x1E, 0x0A, 0x00, 0xE1] : List Byte).map fun f => (after (exec (.gzipHdr 0x1F 0x8B 8 f 0 0 0) (at_ .gzipHdr))).phase) =
      [.gzipExtra, .gzipName, .blockHdr, .blockHdr] ∧
    (after (exec (.gzipHdr 0x50 0x4B 3 0 0 0 0) (at_ .gzipHdr))).errSub = .gzipMagic ∧
    (after (exec (.gzipHdr 0x1F 0x8B 9 0 0 0 0) (at_ .gzipHdr))).errSub = .gzipMethod := by decide +kernel
/-- R318: a prefix of 3, a prefix of 0, the last payload byte. -/
theorem test_gzipExtra :
    (let t := after (exec (.gzipExtra (.lengthField 3)) { at_ .gzipExtra with gflg := 0x1E });
      (t.xlen, t.xlenValid, t.phase)) = (3, true, .gzipExtra) ∧
    (after (exec (.gzipExtra (.lengthField 0)) { at_ .gzipExtra with gflg := 0x1E })).phase = .gzipName ∧
    (let t := after (exec (.gzipExtra (.payload 0xCC)) { at_ .gzipExtra with gflg := 0x14, xlen := 1, xlenValid := true });
      (t.xlen, t.pc, t.phase)) = (0, 8, .gzipComment) := by decide +kernel
/-- R319, R320: the byte 0 ends the string, another does not. -/
theorem test_gzipStrings :
    (after (exec (.gzipName 0x61) { at_ .gzipName with gflg := 0x1E })).phase = .gzipName ∧
    (after (exec (.gzipName 0) { at_ .gzipName with gflg := 0x1E })).phase = .gzipComment ∧
    (after (exec (.gzipComment 0) { at_ .gzipComment with gflg := 0x1E })).phase = .gzipHcrc ∧
    (after (exec (.gzipComment 0x68) { at_ .gzipComment with gflg := 0x1E })).phase = .gzipComment := by decide +kernel
/-- R321: any two bytes pass. -/
theorem test_gzipHcrc :
    (let t := after (exec (.gzipHcrc 0xADDE) (at_ .gzipHcrc)); (t.pc, t.phase)) = (16, .blockHdr) := by decide +kernel
/-- R323: the size that differs by one faults in strict mode and passes in lenient mode; the CRC is compared first. -/
theorem test_gzipTrailer :
    let s : State := { at_ .gzipTrailer with crc := 0x1C291CA3, total := 12 }
    (after (exec (.gzipTrailer 0x1C291CA3 12) s)).phase = .done ∧
    (after (exec (.gzipTrailer 0x1C291CA3 13) s)).errSub = .isize ∧
    (after (exec (.gzipTrailer 0x1C291CA2 13) s)).errSub = .crc32 ∧
    (after (exec (.gzipTrailer 0x1C291CA3 13) { s with checkCrc := false })).phase = .done := by decide +kernel
/-- R288: for an output of 2^32 + 5 bytes the expected size is 5. -/
theorem test_gzipTrailer_size :
    (after (exec (.gzipTrailer 0 5) { at_ .gzipTrailer with total := 2 ^ 32 + 5 })).phase = .done := by decide +kernel
/-- R176: 4B is a final fixed block, 07 faults and leaves the registers. -/
theorem test_blockHdr :
    (let t := after (exec (.blkFixed true) (at_ .blockHdr));
      (t.pc, t.bfinal, t.btype, t.phase, [0, 143, 144, 255, 256, 279, 280, 287].map (llBits · t), dBits 31 t)) =
        (3, true, 1, .symbol, [8, 8, 9, 9, 7, 7, 8, 8], 5) ∧
    (after (exec (.blkStored true) (at_ .blockHdr))).phase = .storedHdr ∧
    (after (exec (.blkDynamic false) (at_ .blockHdr))).btype = 2 ∧
    (let t := after (exec (.blkReserved true) (at_ .blockHdr)); (t.errClass, t.errSub, t.pc, t.bfinal)) =
      (.malformedHeader, .blockType3, 0, false) := by decide +kernel
/-- R178: its two examples, and the empty final block in RAW mode. -/
theorem test_storedHdr :
    (let t := after (exec (.storedHdr 5 0xFFFA) { at_ .storedHdr with pc := 3 }); (t.pc, t.slen, t.phase)) =
      (40, 5, .storedCopy) ∧
    (after (exec (.storedHdr 5 0) (at_ .storedHdr))).errSub = .storedLenMismatch ∧
    (after (exec (.storedHdr 0 0xFFFF) { at_ .storedHdr with bfinal := true })).phase = .done := by decide +kernel
/-- R179, its example: the second of two bytes ends the block. -/
theorem test_storedByte :
    (let t := after (exec (.storedByte 0x69) { at_ .storedCopy with slen := 1, mode := .zlib, bfinal := true });
      (t.output, t.slen, t.phase, t.total, t.win)) = ([0x69], 0, .zlibTrailer, 1, [(0, 0x69)]) := by decide +kernel
/-- R182, its example. -/
theorem test_dynHdr :
    (let t := after (exec (.dynHdr 29 29 14) (at_ .dynHdr)); (t.hlit, t.hdist, t.hclen, t.phase)) =
      (286, 30, 18, .dynCllen) := by decide +kernel
/-- R183, its example: the fourth value 3 of four goes to symbol 0. -/
theorem test_dynCllen :
    (let t := after (exec (.dynCllen 3) { at_ .dynCllen with hclen := 4, clidx := 3, lidx := 9 });
      (entry t.clLen 0, entry t.clLen 8, t.clidx, t.lidx, t.phase)) = (3, 0, 4, 0, .dynLens) := by decide +kernel

/-- A dynamic header of 257 and 1 lengths, 65 of them read, all codes 5 bits long. -/
def dynState : State := { at_ .dynLens with hlit := 257, hdist := 1, lidx := 65, clLen := Vector.replicate 19 5 }

/-- R185: each of the values 0 to 15 at LIDX = 65, in 5 bits. -/
theorem test_clLens :
    ([Instr.clLen0, Instr.clLen1, Instr.clLen2, Instr.clLen3, Instr.clLen4, Instr.clLen5, Instr.clLen6, Instr.clLen7,
      .clLen8, .clLen9, .clLen10, .clLen11, .clLen12, .clLen13, .clLen14, .clLen15].map fun i =>
      let t := after (exec i dynState); ((entry t.lens 65).toNat, t.lidx.toNat, t.pc)) =
    (List.range 16).map fun k => (k, 66, 5) := by decide +kernel
/-- R186, its example: LENS[9] = 5, LIDX = 10, extra value 1; and symbol 16 first. -/
theorem test_clRep16 :
    (let t := after (exec (.clRep16 1) { dynState with lens := (Vector.replicate 320 0).set 9 5, lidx := 10 });
      (t.lidx, [9, 10, 13, 14].map (entry t.lens ·), t.pc)) = (14, [5, 5, 5, 0], 7) ∧
    (after (exec (.clRep16 0) { dynState with lidx := 0 })).errSub = .repeatWithoutPrevious := by decide +kernel
/-- R187, R188: ten zeros, 138 zeros; R184: one too many faults, exactly enough ends the header. -/
theorem test_clZreps :
    (after (exec (.clZrep17 7) dynState)).lidx = 75 ∧ (after (exec (.clZrep18 127) dynState)).lidx = 203 ∧
    (after (exec (.clZrep18 127) { dynState with lidx := 121 })).errSub = .repeatOverrun ∧
    (after (exec (.clZrep18 127) { dynState with lidx := 120 })).phase = .symbol := by decide +kernel
/-- R189: distance symbol 0 is entry HLIT of the sequence. -/
theorem test_split :
    (let t := after (exec .clLen7 { dynState with lidx := 257, lens := (Vector.replicate 320 0).set 256 3 });
      (entry t.llLen 256, entry t.dLen 0, entry t.dLen 1, t.phase)) = (3, 7, 0, .symbol) := by decide +kernel

/-- R202, R281, R286: the literal 0x61 first. -/
theorem test_lit :
    (let t := after (exec (.lit 0x61) (after (exec (.blkFixed true) (at_ .blockHdr))));
      (t.pc, t.output, adler32 t, t.crc, t.wpos, t.phase)) = (11, [0x61], 0x00620062, 0xE8B7BE43, 1, .symbol) := by
  decide +kernel
/-- R203, its example; R161: the ring wraps at WBITS = 8. -/
theorem test_eob_and_wrap :
    (let t := after (exec .eob fixedState); (t.pc, t.phase)) = (10, .done) ∧
    (let t := emitted 0x41 { at_ .symbol with wbits := 8, wpos := 255, total := 255 };
      (t.win, t.wpos, t.total)) = ([(255, 0x41)], 0, 256) := by decide +kernel
/-- R210 to R238: the length of each example, with distance 1; R284's largest value is 258 as well. -/
theorem test_lengths :
    ((lenWords.map (·.2)).map fun i => (after (exec i fixedState)).mlen.toNat) =
      [3, 4, 5, 6, 7, 8, 9, 10, 12, 14, 16, 18, 22, 26, 30, 34, 40, 48, 56, 64, 76, 92, 108, 124, 148, 180, 212, 244, 258] ∧
    (let t := after (exec (.len284 31 ⟨0, 0⟩) fixedState); (t.mlen, t.mdist, t.pc, t.phase)) = (258, 1, 21, .copy) := by
  decide +kernel
/-- R240 to R269: the distance of each example, alone and behind LEN257; R209: the largest. -/
theorem test_distances :
    (((distWords.map (·.2)).take 30).map fun i => (after (exec i fixedState)).mdist.toNat) =
      [1, 2, 3, 4, 6, 8, 12, 16, 22, 30, 42, 58, 82, 114, 162, 226, 322, 450, 642, 898,
       1282, 1794, 2562, 3586, 5122, 7170, 10242, 14338, 20482, 28674] ∧
    (let t := after (exec (.len257 ⟨29, 8191⟩) fixedState); (t.mdist, t.mlen, t.pc)) = (32768, 3, 28) := by decide +kernel
/-- R206, R207: the four symbols without a meaning. -/
theorem test_noMeaning :
    ([Instr.ll286, .ll287, .dist30, .dist31, .len257 ⟨30, 0⟩].map fun i => (after (exec i fixedState)).errSub) =
      [.invalidLengthSymbol, .invalidLengthSymbol, .invalidDistanceSymbol, .invalidDistanceSymbol, .invalidDistanceSymbol] := by
  decide +kernel
/-- R163: the copy of the byte before; a distance above TOTAL; R167: the address 200. -/
theorem test_copy :
    (let t := after (step { fixedState with phase := .copy, mlen := 1, mdist := 1 });
      (t.output, t.mlen, t.phase, t.pc)) = ([0x61, 0x61], 0, .symbol, 3) ∧
    (after (step { fixedState with phase := .copy, mlen := 1, mdist := 2 })).errSub = .invalidBackReference ∧
    copyAddr { State.reset with wbits := 8, wpos := 44, mdist := 100 } = 200 := by decide +kernel
/-- R340 to R345: a start in ZLIB mode, a start refused, an abort. -/
theorem test_host :
    (let t := after (step { State.reset with cfgMode := 1, pending := [.start] }); (t.phase, t.wbits, busy t)) =
      (.zlibHdr, 15, true) ∧
    (after (step { State.reset with cfgMode := 0, cfgWindowBits := 7, pending := [.start] })).phase = .idle ∧
    (after (step { fixedState with pending := [.abort] })).phase = .idle := by decide +kernel
/-- R363, R364: the document's end-to-end example, `enc_zlib("Hello World!", 6, 15)`, with `level` and `wbits` left at
their defaults. -/
theorem test_encZlib :
    encZlib [0x48, 0x65, 0x6C, 0x6C, 0x6F, 0x20, 0x57, 0x6F, 0x72, 0x6C, 0x64, 0x21] =
      [0x78, 0x9C, 0x01, 0x0C, 0x00, 0xF3, 0xFF, 0x48, 0x65, 0x6C, 0x6C, 0x6F, 0x20, 0x57, 0x6F, 0x72, 0x6C, 0x64, 0x21,
       0x1C, 0x49, 0x04, 0x3E] := by decide +kernel
/-- R363: the header bytes for levels 0, 1 and 9 at the default `wbits`, and for `wbits` 8 at level 6. -/
theorem test_encZlib_headers :
    ((encZlib [] 0).take 2, (encZlib [] 1).take 2, (encZlib [] 9).take 2, (encZlib [] (wbits := 8)).take 2) =
      ([0x78, 0x01], [0x78, 0x5E], [0x78, 0xDA], [0x08, 0x99]) := by decide +kernel
/-- R365: the two examples "with the defaults", `enc_gzip("Hello World!")` and `enc_gzip([])`. -/
theorem test_encGzip :
    encGzip [0x48, 0x65, 0x6C, 0x6C, 0x6F, 0x20, 0x57, 0x6F, 0x72, 0x6C, 0x64, 0x21] =
      [0x1F, 0x8B, 0x08, 0x00, 0x00, 0x00, 0x00, 0x00, 0x00, 0x00, 0x01, 0x0C, 0x00, 0xF3, 0xFF, 0x48, 0x65, 0x6C, 0x6C,
       0x6F, 0x20, 0x57, 0x6F, 0x72, 0x6C, 0x64, 0x21, 0xA3, 0x1C, 0x29, 0x1C, 0x0C, 0x00, 0x00, 0x00] ∧
    encGzip [] = [0x1F, 0x8B, 0x08, 0x00, 0x00, 0x00, 0x00, 0x00, 0x00, 0x00, 0x01, 0x00, 0x00, 0xFF, 0xFF, 0x00, 0x00,
      0x00, 0x00, 0x00, 0x00, 0x00, 0x00] := by decide +kernel

/-! ### Witnesses: states and operands that meet the hypotheses of the obligations, clause by clause -/

/-- One byte 0x61 has been emitted in a ring of 256 cells, and a back-reference of length 3 and distance 1 is due. -/
def copyState : State := { fixedState with phase := .copy, mlen := 3, mdist := 1 }

theorem witness_windowHolds : WindowHolds copyState where
  form := by decide +kernel
  wbits := by decide +kernel
  total := by decide +kernel
  wpos := by decide +kernel
  header := by decide +kernel
  cells := by
    intro n h _
    have hn : n = 0 := by
      have : copyState.output.length = 1 := by decide +kernel
      omega
    subst hn
    decide +kernel

theorem witness_phaseRegisters : PhaseRegisters copyState :=
  ⟨by decide +kernel, by decide +kernel, by decide +kernel, by decide +kernel, by decide +kernel, by decide +kernel,
    by decide +kernel⟩

theorem witness_accumulated : Accumulated copyState := ⟨by decide +kernel, by decide +kernel, by decide +kernel⟩

theorem witness_errorsMatch : ErrorsMatch copyState := ⟨by decide +kernel, by decide +kernel⟩

theorem witness_modeMatches : ModeMatches copyState := ⟨by decide +kernel, by decide +kernel, by decide +kernel⟩

theorem witness_step : ∃ t, step copyState = .next t := ⟨_, rfl⟩

/-- ResetValues, StartOperation (one clause each), StartRefused, StaleWindowNeverShows. -/
theorem witness_start :
    (busy State.reset = false ∧ cfgInvalid { State.reset with cfgWindowBits := 8 } = false ∧
      State.reset.win.wf = true ∧ copyState.win.wf = true ∧ busy { copyState with phase := .error } = false) ∧
    (busy { State.reset with cfgMode := 1 } = false ∧ busy { State.reset with cfgMode := 2 } = false) ∧
    busy copyState = true ∧ cfgInvalid { State.reset with cfgWindowBits := 7 } = true ∧
    cfgInvalid { State.reset with cfgMode := 3 } = true := by decide +kernel

/-- AbortOperation, SourceSinkAndPorts, TerminalPhases. -/
theorem witness_agents :
    busy copyState = true ∧ copyState.inEos = false ∧ busy (at_ .done) = false ∧ (at_ .error).phase = .error ∧
    busy { copyState with inEos := true } = true ∧ AgentStep.abort ≠ .start ∧ AgentStep.abort ≠ .hardwareReset ∧
    AgentStep.start ≠ .core ∧ AgentStep.start ≠ .abort ∧ AgentStep.start ≠ .hardwareReset := by decide +kernel
theorem witness_agents_next : (∃ t, agentStep .abort (at_ .done) = .next t) ∧ ∃ t, agentStep .start copyState = .next t :=
  ⟨⟨_, rfl⟩, ⟨_, rfl⟩⟩

/-- PreciseFaults, FaultMatrix: a block header of type 3. -/
theorem witness_fault :
    ∃ t, coreStep { at_ .blockHdr with input := [0x07] } = .next t ∧ t.phase = .error ∧ t.errSub = .blockType3 :=
  ⟨_, rfl, by decide +kernel, by decide +kernel⟩

/-- FaultElements: both symbols. -/
theorem witness_faultElements : 30 ≤ (⟨30, 0⟩ : DistPart).sym.toNat ∧ 30 ≤ (⟨31, 0⟩ : DistPart).sym.toNat := by decide

/-- ZlibHeader, clause by clause, at the least and the largest CINFO; ZlibPrefixes. -/
theorem witness_zlibHeader :
    let f : Byte → Byte → Nat × Bool × Bool × Bool := fun cmf flg =>
      (cmf.toNat % 16, decide (cmf.toNat / 16 ≤ 7), decide ((cmf.toNat * 256 + flg.toNat) % 31 = 0), flg.getLsbD 5)
    f 0x08 0x1D = (8, true, true, false) ∧ f 0x78 0x9C = (8, true, true, false) ∧ (f 0x79 0x00).1 = 9 ∧
    (f 0x88 0x1C).2.1 = false ∧ f 0x78 0x00 = (8, true, false, false) ∧ f 0x78 0xBB = (8, true, true, true) ∧
    0x7800 % 31 ≠ 0 := by decide +kernel

/-- ZlibTrailer: equal and different. -/
theorem witness_zlibTrailer :
    (1 : BitVec 32).toNat = State.reset.adlerB.toNat * 65536 + State.reset.adlerA.toNat ∧
    (2 : BitVec 32).toNat ≠ State.reset.adlerB.toNat * 65536 + State.reset.adlerA.toNat := by decide +kernel

/-- GzipHeader: accepted, either byte of the magic wrong, the method wrong. -/
theorem witness_gzipHeader : ((0x50 : Byte) ≠ 0x1F ∨ (0x8B : Byte) ≠ 0x8B) ∧ ((0x1F : Byte) ≠ 0x1F ∨ (0 : Byte) ≠ 0x8B) ∧
    (9 : Byte) ≠ 8 := by decide

/-- GzipParts: a length of 1 and of 65535, payload counts 65535, 2 and 1. -/
theorem witness_gzipParts :
    (1 : BitVec 16) ≠ 0 ∧ (0xFFFF : BitVec 16) ≠ 0 ∧ 1 < ({ at_ .gzipExtra with xlen := 2 } : State).xlen.toNat ∧
    1 < ({ at_ .gzipExtra with xlen := 0xFFFF } : State).xlen.toNat ∧
    ({ at_ .gzipExtra with xlen := 1 } : State).xlen.toNat = 1 ∧ (0xFF : Byte) ≠ 0 := by decide +kernel

/-- GzipTrailer, TrailerBitFlips: lenient, matching, each mismatch. -/
theorem witness_gzipTrailer :
    ({ State.reset with checkCrc := false } : State).checkCrc = false ∧ State.reset.checkCrc = true ∧
    (0 : BitVec 32) = State.reset.crc ∧ (0 : BitVec 32).toNat = State.reset.total % 2 ^ 32 ∧
    (1 : BitVec 32) ≠ State.reset.crc ∧ (1 : BitVec 32).toNat ≠ State.reset.total % 2 ^ 32 ∧
    (5 : BitVec 32).toNat = (2 ^ 32 + 5) % 2 ^ 32 := by decide +kernel

/-- AfterBlock: each mode. -/
theorem witness_afterBlock :
    State.reset.bfinal = false ∧ ({ State.reset with bfinal := true } : State).mode = .raw ∧
    ({ State.reset with bfinal := true, mode := .zlib } : State).mode = .zlib ∧
    ({ State.reset with bfinal := true, mode := .gzip } : State).mode = .gzip := by decide +kernel

/-- StoredHeader: lengths 65535, 1 and 0, and a pair that is no complement. -/
theorem witness_storedHeader :
    (0xFFFF : BitVec 16) ^^^ 0 = 0xFFFF ∧ (1 : BitVec 16) ^^^ 0xFFFE = 0xFFFF ∧ (0 : BitVec 16) ^^^ 0xFFFF = 0xFFFF ∧
    (5 : BitVec 16) ^^^ 0 ≠ 0xFFFF := by decide

/-- EmitByte, Literal, StoredByte (more bytes, the last byte), SinkNotReady. -/
theorem witness_emit :
    fixedState.sinkReady = true ∧ ({ fixedState with sinkReady := false } : State).sinkReady = false ∧
    (2 : BitVec 16) ≠ 0 ∧ (2 : BitVec 16) ≠ 1 ∧ (1 : BitVec 16) ≠ 0 ∧
    (copyState.win.read (copyAddr copyState)).isSome = true := by decide +kernel

/-- CodeLengthLength: the first of 19, the last of 19, the last of 4. -/
theorem witness_dynCllen :
    (0 : BitVec 5).toNat < clOrder.length ∧ (0 : BitVec 5).toNat + 1 ≠ (19 : BitVec 5).toNat ∧
    (18 : BitVec 5).toNat < clOrder.length ∧ (18 : BitVec 5).toNat + 1 = (19 : BitVec 5).toNat ∧
    (3 : BitVec 5).toNat + 1 = (4 : BitVec 5).toNat := by decide

/-- CodedLengthsMore, CodedLengthsLast, CodedLengthTraps: each symbol at the last place where it fits and one past it. -/
theorem witness_codedLengths :
    lengthsWanted dynState = 258 ∧ 256 + 1 < lengthsWanted dynState ∧ 257 + 1 = lengthsWanted dynState ∧
    lengthsWanted dynState < 258 + 1 ∧ ({ dynState with lidx := 254 } : State).lidx ≠ 0 ∧
    254 + (3 + (0 : BitVec 2).toNat) < lengthsWanted dynState ∧ 252 + (3 + (3 : BitVec 2).toNat) = lengthsWanted dynState ∧
    lengthsWanted dynState < 253 + (3 + (3 : BitVec 2).toNat) ∧ 247 + (3 + (7 : BitVec 3).toNat) < lengthsWanted dynState ∧
    248 + (3 + (7 : BitVec 3).toNat) = lengthsWanted dynState ∧ lengthsWanted dynState < 249 + (3 + (7 : BitVec 3).toNat) ∧
    119 + (11 + (127 : BitVec 7).toNat) < lengthsWanted dynState ∧
    120 + (11 + (127 : BitVec 7).toNat) = lengthsWanted dynState ∧
    lengthsWanted dynState < 121 + (11 + (127 : BitVec 7).toNat) ∧ ({ dynState with lidx := 0 } : State).lidx = 0 := by
  decide +kernel

/-- LengthSymbols: the smallest and the largest distance part. -/
theorem witness_lengths :
    (⟨0, 0⟩ : DistPart).wellFormed = true ∧ (⟨29, 8191⟩ : DistPart).wellFormed = true ∧
    (⟨29, 8191⟩ : DistPart).sym.toNat < 30 := by decide

/-- CopyByte, CopyReadsTheWindow, CopyRun: a distance equal to TOTAL, one above it, the last byte and an earlier one. -/
theorem witness_copy :
    copyState.phase = .copy ∧ copyState.mdist.toNat ≤ copyState.total ∧ copyState.sinkReady = true ∧
    copyState.win.read (copyAddr copyState) = some 0x61 ∧ copyState.mlen ≠ 1 ∧
    ({ copyState with mlen := 1 } : State).mlen = 1 ∧
    ({ copyState with mdist := 2 } : State).total < ({ copyState with mdist := 2 } : State).mdist.toNat ∧
    copyState.pending = [] ∧ 1 ≤ copyState.mlen.toNat ∧ 1 ≤ copyState.mdist.toNat ∧
    copyState.mdist.toNat ≤ 2 ^ copyState.wbits.toNat := by decide +kernel

/-- A fixed block's literal 0x61 stands at the cursor. -/
def litState : State := { fixedState with pc := 0, input := [0x89, 0x00] }

/-- StepRunsDecoded, PcFollowsTheBits, LaterBytesDoNotMatter, StepKeepsCursor. -/
theorem witness_fetch :
    decode (decodeCtx litState) ⟨litState.pc, (bitsOfBytes litState.input).drop litState.pc⟩ =
      .ok (.lit 0x61) ⟨8, List.replicate 8 false⟩ ∧
    fetch litState = .ok (.lit 0x61) ⟨8, List.replicate 8 false⟩ ∧ fetch litState ≠ .reject .short ∧
    litState.pc ≤ 8 * litState.input.length ∧ (after (exec (.lit 0x61) litState)).phase ≠ .error := by decide +kernel
theorem witness_fetch_next : (∃ t, exec (.lit 0x61) litState = .next t) ∧ ∃ t, step litState = .next t :=
  ⟨⟨_, rfl⟩, by
    unfold step stepAgents
    rw [show litState.pending = [] from rfl]
    simp only [coreStep, witness_fetch.2.1]
    exact ⟨_, rfl⟩⟩

/-- ShortInput: no bits left, and fifteen bits that are no code of a table without symbols. -/
theorem witness_short :
    fetch { fixedState with pc := 0 } = .reject .short ∧
    fetch { at_ .symbol with input := [0xFF, 0xFF] } = .reject .invalidCode := by decide +kernel

/-- DecodeEncode, DecodeWellFormed: a back-reference in a fixed block, encoded at bit 3. -/
theorem witness_roundTrip :
    (Instr.len265 1 ⟨29, 8191⟩).wellFormed = true ∧ (Instr.len265 1 ⟨29, 8191⟩).phase = some .symbol ∧
    encode (fixedCtx .symbol) 3 (.len265 1 ⟨29, 8191⟩) =
      some (bits [0, 0, 0, 1, 0, 0, 1, 1, 1, 1, 1, 0, 1, 1, 1, 1, 1, 1, 1, 1, 1, 1, 1, 1, 1, 1]) ∧
    (∀ l ∈ (fixedCtx .symbol).ll, l ≤ Config.maxBits) ∧ (∀ l ∈ (fixedCtx .symbol).dist, l ≤ Config.maxBits) ∧
    reads (fixedCtx .symbol) [0, 0, 0, 1, 0, 0, 1, 1, 1, 1, 1, 0, 1, 1, 1, 1, 1, 1, 1, 1, 1, 1, 1, 1, 1, 1]
      (.len265 1 ⟨29, 8191⟩) = true ∧
    (∀ l ∈ clCtx.cl, l ≤ Config.clMaxBits) := by decide +kernel

/-- DistanceDecodeEncode. -/
theorem witness_distRoundTrip :
    encode (fixedCtx .symbol) 3 (.dist5 1) = some (bits [0, 0, 1, 0, 1, 1]) ∧
    encode (fixedCtx .symbol) 3 .dist31 = some (bits [1, 1, 1, 1, 1]) := by decide +kernel

/-- SymbolsAndCodes: an over-subscribed table, both directions. -/
theorem witness_symbols :
    (∀ l ∈ [1, 1, 1], l ≤ 1) ∧ codeBits [1, 1, 1] 1 = some [true] ∧
    decodeSym [1, 1, 1] 1 ⟨0, [true]⟩ = .ok 1 ⟨1, []⟩ := by decide +kernel

/-- DegenerateTables: one symbol of three, length 3, and a walk of 7 bits that misses it. -/
theorem witness_degenerate :
    2 < 3 ∧ 1 ≤ 3 ∧ 3 ≤ 7 ∧ (bits [0, 0, 1, 0, 0, 0, 0]).length = 7 ∧
    (bits [0, 0, 1, 0, 0, 0, 0]).take 3 ≠ List.replicate 3 false := by decide

/-- ElementFrame: an element that emits, one that does not, and the one that writes WBITS. -/
theorem witness_frame :
    (∃ t, exec (.lit 0x61) fixedState = .next t) ∧ (∃ t, exec .eob fixedState = .next t) ∧
    ∃ t, exec (.zlibHdr 0x78 0x9C) (at_ .zlibHdr) = .next t := ⟨⟨_, rfl⟩, ⟨_, rfl⟩, ⟨_, rfl⟩⟩

/-- EncoderRawRun, EncoderRoundTrip: the least and the largest window size. -/
theorem witness_encoder : 8 ≤ (8 : BitVec 4).toNat ∧ 8 ≤ (15 : BitVec 4).toNat := by decide

end Sys2Proof.Tests
end

section
/-! The place in the input behind each read: the bit reader, the walk of a code, the distance part. -/

namespace Sys2Proof.Machine

/-- Reading from `c` has ended at bit `p`, in `c'`, on the same stream of bits. -/
structure Reached (c : Cursor) (p : Nat) (c' : Cursor) : Prop where
  pos : c'.pos = p
  stream : c'.pos + c'.rest.length = c.pos + c.rest.length

theorem Reached.trans {c c' c'' : Cursor} {p q : Nat} (h : Reached c p c') (k : Reached c' q c'') : Reached c q c'' :=
  ⟨k.pos, k.stream.trans h.stream⟩

theorem discardBits_discardBits (c : Cursor) : discardBits (discardBits c) = discardBits c := by
  simp [discardBits, alignUp_aligned (alignUp_spec c.pos).2.2]

theorem readBits_reached {n : Nat} {c c' : Cursor} {v : BitVec n} (h : readBits n c = .ok v c') :
    Reached c (c.pos + n) c' := by
  rcases readBits_cases n c with ⟨hn, e⟩ | ⟨_, e⟩ <;> rw [e] at h <;> cases h
  exact ⟨rfl, by simp only [List.length_drop]; omega⟩

/-- An aligned read (R124): the bits up to the byte boundary are skipped, then `n` are taken. -/
theorem readAligned_reached {n : Nat} (hn : 0 < n) {c c' : Cursor} {v : BitVec n}
    (h : readBits n (discardBits c) = .ok v c') : Reached c (alignUp c.pos + n) c' := by
  obtain ⟨hle, -, -⟩ := alignUp_spec c.pos
  rcases readBits_cases n (discardBits c) with ⟨hk, e⟩ | ⟨_, e⟩ <;> rw [e] at h <;> cases h
  simp only [discardBits, List.length_drop] at hk
  exact ⟨rfl, by simp only [discardBits, List.length_drop]; omega⟩

theorem u8_reached {c c' : Cursor} {v : Byte} (h : u8 c = .ok v c') : Reached c (alignUp c.pos + 8) c' :=
  readAligned_reached (by decide) h

theorem u16LE_reached {c c' : Cursor} {v : BitVec 16} (h : u16LE c = .ok v c') : Reached c (alignUp c.pos + 16) c' :=
  readAligned_reached (by decide) h

theorem u32LE_reached {c c' : Cursor} {v : BitVec 32} (h : u32LE c = .ok v c') : Reached c (alignUp c.pos + 32) c' :=
  readAligned_reached (by decide) h

theorem u32BE_reached {c c' : Cursor} {v : BitVec 32} (h : u32BE c = .ok v c') : Reached c (alignUp c.pos + 32) c' := by
  obtain ⟨b0, c0, h0, h⟩ := bind_eq_ok h
  obtain ⟨b1, c1, h1, h⟩ := bind_eq_ok h
  obtain ⟨b2, c2, h2, h⟩ := bind_eq_ok h
  obtain ⟨b3, c3, h3, h⟩ := bind_eq_ok h
  cases h
  have r := (readAligned_reached (by decide) h0).trans (readBits_reached h1) |>.trans (readBits_reached h2)
    |>.trans (readBits_reached h3)
  have p0 := (readAligned_reached (by decide) h0).pos
  have p1 := (readBits_reached h1).pos
  have p2 := (readBits_reached h2).pos
  exact ⟨by have := r.pos; omega, r.stream⟩

/-- Once the cursor is aligned, an aligned read starts where it stands. -/
theorem alignUp_alignUp_add_mul (p k : Nat) : alignUp (alignUp p + 8 * k) = alignUp p + 8 * k :=
  alignUp_aligned (by have := (alignUp_spec p).2.2; omega)

/-! ### The walk of a code (R145) -/

theorem length_symbolsOfLength (L : List Nat) {len : Nat} (h : 0 < len) :
    (symbolsOfLength L len).length = blCount L len := by
  have hsnd : ((List.range L.length).zip L).map Prod.snd = L := List.map_snd_zip (by simp)
  have hcount : blCount L len = (((List.range L.length).zip L).map Prod.snd).count len := by
    simp [blCount, hsnd, Nat.ne_of_gt h]
  rw [hcount, List.count, List.countP_map, symbolsOfLength, List.length_filterMap_eq_countP]
  congr 1
  funext p
  by_cases hp : p.2 = len <;> simp [hp]

theorem getElem?_of_mem_symbolsOfLength {L : List Nat} {len s : Nat} (h : s ∈ symbolsOfLength L len) :
    L[s]? = some len := by
  obtain ⟨⟨a, b⟩, hmem, hab⟩ := List.mem_filterMap.1 h
  obtain ⟨i, hi⟩ := List.mem_iff_getElem?.1 hmem
  obtain ⟨hr, hL⟩ := List.getElem?_zip_eq_some.1 hi
  obtain ⟨hlt, ha⟩ := List.getElem?_eq_some_iff.1 hr
  simp only [List.getElem_range] at ha
  by_cases hb : b = len <;> simp_all

theorem length_symsFrom (L : List Nat) (n : Nat) : (symsFrom L n).length = symOffset L (n + 1) := by
  induction n with
  | zero => simp [symsFrom, symOffset, blCount]
  | succ n ih => simp [symsFrom, symOffset, ih, length_symbolsOfLength]

/-- The symbols of one length stand together in `SYMS`, from its offset on (R144). -/
theorem getElem?_symsFrom {L : List Nat} {len n k : Nat} (h0 : 0 < len) (hn : len ≤ n) (hk : k < blCount L len) :
    (symsFrom L n)[symOffset L len + k]? = (symbolsOfLength L len)[k]? := by
  induction n with
  | zero => omega
  | succ n ih =>
    have hlen : symOffset L (len + 1) = symOffset L len + blCount L len := rfl
    rcases Nat.lt_or_ge n len with hlt | hle
    · obtain rfl : len = n + 1 := by omega
      rw [symsFrom, List.getElem?_append_right (by rw [length_symsFrom]; omega), length_symsFrom,
        Nat.add_sub_cancel_left]
    · have hlast := ih hle
      have hin : symOffset L len + k < (symsFrom L n).length := by
        have hsome : ((symsFrom L n)[symOffset L len + k]?).isSome := by
          simpa [hlast, length_symbolsOfLength L h0] using hk
        simpa using hsome
      rw [symsFrom, List.getElem?_append_left hin, hlast]

/-- A walk that ends with a symbol has taken as many bits as the table gives the symbol's code (log 12). -/
theorem huffmanWalk_reached {L : List Nat} {m fuel len code s : Nat} {c c' : Cursor} (hm : len + fuel = m)
    (h : huffmanWalk L m fuel len code c = .ok s c') : ∃ k, L[s]? = some (len + k) ∧ Reached c (c.pos + k) c' := by
  induction fuel generalizing len code c with
  | zero => cases h
  | succ fuel ih =>
    obtain ⟨b, c1, h1, h⟩ := bind_eq_ok h
    have r1 := readBits_reached h1
    simp only at h
    split at h
    · rename_i hcode
      split at h
      · rename_i hs
        cases h
        rw [getElem?_symsFrom (by omega) (by omega) (by omega)] at hs
        exact ⟨1, getElem?_of_mem_symbolsOfLength (List.mem_of_getElem? hs), r1⟩
      · cases h
    · obtain ⟨k, hk, r⟩ := ih (by omega) h
      refine ⟨1 + k, by rw [hk, Nat.add_assoc], ?_⟩
      rw [← Nat.add_assoc, ← r1.pos]
      exact r1.trans r

/-- Decoding a symbol of a table (R145): it is one of the table's, and its length is what was read. -/
theorem decodeSym_reached {n w m s : Nat} {v : Vector (BitVec w) n} {c c' : Cursor}
    (h : decodeSym (lengthsOf v) m c = .ok s c') : s < n ∧ Reached c (c.pos + (entry v s).toNat) c' := by
  obtain ⟨k, hk, r⟩ := huffmanWalk_reached (Nat.zero_add m) h
  obtain ⟨hs, hval⟩ := List.getElem?_eq_some_iff.1 hk
  simp only [lengthsOf, List.length_map, Vector.length_toList] at hs
  have hlen : (entry v s).toNat = k := by
    simp only [lengthsOf, List.getElem_map, Nat.zero_add] at hval
    simp [entry, hs, ← hval]
  exact ⟨hs, hlen ▸ r⟩

/-- A distance part takes the bits of its symbol's code and its extra bits (R205). -/
theorem decodeDist_reached {s : State} {d : DistPart} {c c' : Cursor} (h : decodeDist (decodeCtx s) c = .ok d c') :
    Reached c (c.pos + distanceBits d s) c' := by
  obtain ⟨sym, c1, h1, h⟩ := bind_eq_ok h
  obtain ⟨e, c2, h2, h⟩ := bind_eq_ok h
  cases h
  obtain ⟨hsym, r1⟩ := decodeSym_reached (v := s.dLen) h1
  have r2 := readBits_reached h2
  have hd : (BitVec.ofNat 5 sym).toNat = sym := by simp [Nat.mod_eq_of_lt hsym]
  refine r1.trans ⟨?_, r2.stream⟩
  rw [r2.pos, r1.pos, distanceBits, dBits, hd, Nat.add_assoc]

end Sys2Proof.Machine
end

section
/-! The inversion of `fetch`: in each phase, which elements there are, what each one means and where it ends. -/

namespace Sys2Proof.Machine

theorem exec_clRep16_of_first {s : State} (h : s.lidx = 0) (e : BitVec 2) :
    exec (.clRep16 e) s = .next (enterError .repeatWithoutPrevious s) := by
  simp only [exec, execClRep16, commit, if_pos h]

theorem exec_clRep16_of_previous {s : State} (h : s.lidx ≠ 0) (e : BitVec 2) :
    exec (.clRep16 e) s = commit (codedLength 16 2 (entry s.lens (s.lidx.toNat - 1)) (3 + e.toNat)) s := by
  simp only [exec, execClRep16, commit, if_neg h]

/-- A code-length symbol with its extra bits (R184 to R188): a coded length, or symbol 16 with no previous length, which
faults. -/
inductive CodeLengthElement (s : State) (c : Cursor) (i : Instr) (c' : Cursor) : Prop
  | coded (sym ex : Nat) (v : BitVec 4) (n : Nat) (hx : exec i s = commit (codedLength sym ex v n) s)
      (r : Reached c (c.pos + (clBits sym s + ex)) c')
  | noPrevious (hx : exec i s = .next (enterError .repeatWithoutPrevious s)) (p : Nat) (r : Reached c p c')

theorem decodeCodeLength_cases {s : State} {i : Instr} {c c' : Cursor}
    (h : decodeCodeLength (decodeCtx s) c = .ok i c') : CodeLengthElement s c i c' := by
  obtain ⟨sym, c1, h1, h⟩ := bind_eq_ok h
  obtain ⟨-, r1⟩ := decodeSym_reached (v := s.clLen) h1
  have extra {n : Nat} {e : BitVec n} {c2 : Cursor} (h2 : readBits n c1 = .ok e c2) :
      Reached c (c.pos + ((entry s.clLen sym).toNat + n)) c2 := by
    rw [← Nat.add_assoc, ← r1.pos]
    exact r1.trans (readBits_reached h2)
  split at h
  case h_17 =>
    split at h
    · rename_i hprev
      have hl : s.lidx ≠ 0 := of_decide_eq_true hprev
      obtain ⟨e, c2, h2, h⟩ := bind_eq_ok h
      cases h
      exact .coded 16 2 (entry s.lens (s.lidx.toNat - 1)) (3 + e.toNat)
        (exec_clRep16_of_previous hl e) (extra h2)
    · rename_i hprev
      have hl : s.lidx = 0 := by simpa [decodeCtx] using hprev
      cases h
      exact .noPrevious (exec_clRep16_of_first hl _) _ r1
  case h_18 =>
    obtain ⟨e, c2, h2, h⟩ := bind_eq_ok h
    cases h
    exact .coded 17 3 0 (3 + e.toNat) rfl (extra h2)
  case h_19 =>
    obtain ⟨e, c2, h2, h⟩ := bind_eq_ok h
    cases h
    exact .coded 18 7 0 (11 + e.toNat) rfl (extra h2)
  case h_20 => cases h
  all_goals
    cases h
    exact .coded _ 0 _ 1 rfl r1

/-- What follows literal/length symbol `k`, 256 or above (R201): the end of the block, a back-reference with its extra
bits and distance part, or a fault. -/
inductive LengthElement (x : DecodeCtx) (k : Nat) (c : Cursor) (i : Instr) (c' : Cursor) : Prop
  | eob (hi : i = .eob) (hk : k = 256) (hc : c' = c)
  | backref (ex len : Nat) (d : DistPart) (c1 : Cursor) (hlen : 3 ≤ len ∧ len ≤ 258)
      (hx : ∀ s, exec i s = commit (lengthRule k ex len d) s) (r : Reached c (c.pos + ex) c1)
      (hd : decodeDist x c1 = .ok d c')
  | faulting (hx : ∀ s, exec i s = .next (enterError .invalidLengthSymbol s)) (hc : c' = c)

theorem LengthElement.of_thenDist {x : DecodeCtx} {k len : Nat} {c c' : Cursor} {i : Instr} {mk : DistPart → Instr}
    (hlen : 3 ≤ len ∧ len ≤ 258) (hx : ∀ d s, exec (mk d) s = commit (lengthRule k 0 len d) s)
    (h : thenDist x mk c = .ok i c') : LengthElement x k c i c' := by
  obtain ⟨d, c1, h1, h⟩ := bind_eq_ok h
  cases h
  exact .backref 0 len d c hlen (hx d) ⟨rfl, rfl⟩ h1

theorem LengthElement.of_thenExtraDist {x : DecodeCtx} {k n base : Nat} {c c' : Cursor} {i : Instr}
    {mk : BitVec n → DistPart → Instr} (hbase : 3 ≤ base ∧ base + 2 ^ n ≤ 259)
    (hx : ∀ e d s, exec (mk e d) s = commit (lengthRule k n (base + e.toNat) d) s)
    (h : thenExtraDist x n mk c = .ok i c') : LengthElement x k c i c' := by
  obtain ⟨e, c1, h1, h⟩ := bind_eq_ok h
  obtain ⟨d, c2, h2, h⟩ := bind_eq_ok h
  cases h
  have he := e.isLt
  exact .backref n (base + e.toNat) d c1 (by omega) (hx e d) (readBits_reached h1) h2

/-- In order of the symbols: the end of the block, 8 lengths without extra bits, 20 with, the longest length, the two
symbols without a meaning (R100). -/
theorem lengthElement_cases {x : DecodeCtx} {k : Nat} (hk : k < 32) {c c' : Cursor} {i : Instr}
    (h : lengthElement x (256 + k) c = .ok i c') : LengthElement x (256 + k) c i c' := by
  interval_cases k
  · cases h
    exact .eob rfl rfl rfl
  iterate 8 exact .of_thenDist (by decide) (fun _ _ => rfl) h
  iterate 20 exact .of_thenExtraDist (by decide) (fun _ _ _ => rfl) h
  · exact .of_thenDist (by decide) (fun _ _ => rfl) h
  iterate 2
    cases h
    exact .faulting (fun _ => rfl) rfl

/-- The element at `pc` and the cursor `c` behind it, phase by phase (R24, R25, R104). -/
inductive Fetched (s : State) (c : Cursor) : Instr → Prop
  | zlibHdr (cmf flg : Byte) (ph : s.phase = .zlibHdr) (r : Reached (cursor s) (alignUp s.pc + 16) c) :
      Fetched s c (.zlibHdr cmf flg)
  | gzipHdr (id1 id2 cm flg : Byte) (mtime : BitVec 32) (xfl os : Byte) (ph : s.phase = .gzipHdr)
      (r : Reached (cursor s) (alignUp s.pc + 80) c) : Fetched s c (.gzipHdr id1 id2 cm flg mtime xfl os)
  | extraLength (n : BitVec 16) (ph : s.phase = .gzipExtra) (r : Reached (cursor s) (alignUp s.pc + 16) c) :
      Fetched s c (.gzipExtra (.lengthField n))
  | extraPayload (b : Byte) (ph : s.phase = .gzipExtra) (r : Reached (cursor s) (alignUp s.pc + 8) c) :
      Fetched s c (.gzipExtra (.payload b))
  | gzipName (b : Byte) (ph : s.phase = .gzipName) (r : Reached (cursor s) (alignUp s.pc + 8) c) :
      Fetched s c (.gzipName b)
  | gzipComment (b : Byte) (ph : s.phase = .gzipComment) (r : Reached (cursor s) (alignUp s.pc + 8) c) :
      Fetched s c (.gzipComment b)
  | gzipHcrc (v : BitVec 16) (ph : s.phase = .gzipHcrc) (r : Reached (cursor s) (alignUp s.pc + 16) c) :
      Fetched s c (.gzipHcrc v)
  | blkStored (final : Bool) (ph : s.phase = .blockHdr) (r : Reached (cursor s) (s.pc + 3) c) :
      Fetched s c (.blkStored final)
  | blkFixed (final : Bool) (ph : s.phase = .blockHdr) (r : Reached (cursor s) (s.pc + 3) c) :
      Fetched s c (.blkFixed final)
  | blkDynamic (final : Bool) (ph : s.phase = .blockHdr) (r : Reached (cursor s) (s.pc + 3) c) :
      Fetched s c (.blkDynamic final)
  | storedHdr (len nlen : BitVec 16) (ph : s.phase = .storedHdr) (r : Reached (cursor s) (alignUp s.pc + 32) c) :
      Fetched s c (.storedHdr len nlen)
  | storedByte (b : Byte) (ph : s.phase = .storedCopy) (r : Reached (cursor s) (s.pc + 8) c) :
      Fetched s c (.storedByte b)
  | dynHdr (hlit hdist : BitVec 5) (hclen : BitVec 4) (ph : s.phase = .dynHdr)
      (r : Reached (cursor s) (s.pc + 14) c) : Fetched s c (.dynHdr hlit hdist hclen)
  | dynCllen (v : BitVec 3) (ph : s.phase = .dynCllen) (r : Reached (cursor s) (s.pc + 3) c) :
      Fetched s c (.dynCllen v)
  | coded (i : Instr) (sym ex : Nat) (v : BitVec 4) (n : Nat) (ph : s.phase = .dynLens)
      (hx : exec i s = commit (codedLength sym ex v n) s)
      (r : Reached (cursor s) (s.pc + (clBits sym s + ex)) c) : Fetched s c i
  | lit (b : Byte) (ph : s.phase = .symbol) (r : Reached (cursor s) (s.pc + llBits b.toNat s) c) : Fetched s c (.lit b)
  | eob (ph : s.phase = .symbol) (r : Reached (cursor s) (s.pc + llBits 256 s) c) : Fetched s c .eob
  | backref (i : Instr) (k ex len : Nat) (d : DistPart) (hlen : 3 ≤ len ∧ len ≤ 258) (ph : s.phase = .symbol)
      (hx : exec i s = commit (lengthRule k ex len d) s)
      (r : Reached (cursor s) (s.pc + (llBits k s + ex + distanceBits d s)) c) : Fetched s c i
  | zlibTrailer (v : BitVec 32) (ph : s.phase = .zlibTrailer) (r : Reached (cursor s) (alignUp s.pc + 32) c) :
      Fetched s c (.zlibTrailer v)
  | gzipTrailer (crc n : BitVec 32) (ph : s.phase = .gzipTrailer) (r : Reached (cursor s) (alignUp s.pc + 64) c) :
      Fetched s c (.gzipTrailer crc n)
  | faulting (i : Instr) (e : ErrSub) (he : e ≠ .none) (hx : exec i s = .next (enterError e s)) (p : Nat)
      (r : Reached (cursor s) p c) : Fetched s c i

/-- The cursor behind a fetched element is on the input's own stream of bits. -/
theorem Fetched.stream {s : State} {c : Cursor} {i : Instr} (h : Fetched s c i) :
    c.pos + c.rest.length = (cursor s).pos + (cursor s).rest.length := by
  cases h <;> exact Reached.stream ‹_›

theorem fetched_gzipHdr {s : State} {i : Instr} {c : Cursor} (ph : s.phase = .gzipHdr)
    (h : decodeGzipHdr (cursor s) = .ok i c) : Fetched s c i := by
  obtain ⟨id1, c1, h1, h⟩ := bind_eq_ok h
  obtain ⟨id2, c2, h2, h⟩ := bind_eq_ok h
  obtain ⟨cm, c3, h3, h⟩ := bind_eq_ok h
  obtain ⟨flg, c4, h4, h⟩ := bind_eq_ok h
  obtain ⟨mtime, c5, h5, h⟩ := bind_eq_ok h
  obtain ⟨xfl, c6, h6, h⟩ := bind_eq_ok h
  obtain ⟨os, c7, h7, h⟩ := bind_eq_ok h
  cases h
  have r1 := u8_reached h1
  have r2 := u8_reached h2
  have r3 := u8_reached h3
  have r4 := u8_reached h4
  have r5 := u32LE_reached h5
  have r6 := u8_reached h6
  have r7 := u8_reached h7
  have r := r1.trans r2 |>.trans r3 |>.trans r4 |>.trans r5 |>.trans r6 |>.trans r7
  refine .gzipHdr _ _ _ _ _ _ _ ph ⟨?_, r.stream⟩
  rw [r7.pos, r6.pos, r5.pos, r4.pos, r3.pos, r2.pos, r1.pos]
  simp only [alignUp, cursor]
  omega

theorem fetched_blockHdr {s : State} {i : Instr} {c : Cursor} (ph : s.phase = .blockHdr)
    (h : decodeBlockHdr (cursor s) = .ok i c) : Fetched s c i := by
  obtain ⟨v, c1, h1, h⟩ := bind_eq_ok h
  have r1 := readBits_reached h1
  split at h <;> cases h
  · exact .blkStored _ ph r1
  · exact .blkFixed _ ph r1
  · exact .blkDynamic _ ph r1
  · exact .faulting _ .blockType3 (by decide) rfl _ r1

theorem fetched_dynLens {s : State} {i : Instr} {c : Cursor} (ph : s.phase = .dynLens)
    (h : decodeCodeLength (decodeCtx s) (cursor s) = .ok i c) : Fetched s c i := by
  cases decodeCodeLength_cases h with
  | coded sym ex v n hx r => exact .coded i sym ex v n ph hx r
  | noPrevious hx p r => exact .faulting i _ (by decide) hx p r

theorem fetched_symbol {s : State} {i : Instr} {c : Cursor} (ph : s.phase = .symbol)
    (h : decodeSymbol (decodeCtx s) (cursor s) = .ok i c) : Fetched s c i := by
  obtain ⟨sym, c1, h1, h⟩ := bind_eq_ok h
  obtain ⟨hlt, r1⟩ := decodeSym_reached (v := s.llLen) h1
  split at h
  · rename_i hsym
    have hb : (BitVec.ofNat 8 sym).toNat = sym := by simp [Nat.mod_eq_of_lt hsym]
    cases h
    refine .lit _ ph ?_
    rw [hb]
    exact r1
  · rename_i hsym
    obtain ⟨k, rfl⟩ := Nat.exists_eq_add_of_le (Nat.le_of_not_lt hsym)
    cases lengthElement_cases (by omega) h with
    | eob hi hk hc =>
      rw [hk] at r1
      subst hi hc
      exact .eob ph r1
    | backref ex len d c2 hlen hx r2 hd =>
      have r3 := decodeDist_reached hd
      refine .backref i (256 + k) ex len d hlen ph (hx s) ⟨?_, (r1.trans r2 |>.trans r3).stream⟩
      rw [r3.pos, r2.pos, r1.pos]
      simp only [llBits, cursor]
      omega
    | faulting hx hc =>
      subst hc
      exact .faulting i _ (by decide) (hx s) _ r1

/-- The inversion of `fetch`. -/
theorem fetch_cases {s : State} {i : Instr} {c : Cursor} (h : fetch s = .ok i c) : Fetched s c i := by
  have hph : (decodeCtx s).phase = s.phase := rfl
  unfold fetch decode at h
  rw [hph] at h
  split at h
  case h_1 | h_15 | h_18 | h_19 => cases h
  case h_2 ph =>
    obtain ⟨cmf, c1, h1, h⟩ := bind_eq_ok h
    obtain ⟨flg, c2, h2, h⟩ := bind_eq_ok h
    cases h
    have r1 := u8_reached h1
    have r2 := u8_reached h2
    exact .zlibHdr _ _ ph ⟨by rw [r2.pos, r1.pos, alignUp_alignUp_add_mul _ 1]; rfl, (r1.trans r2).stream⟩
  case h_3 ph => exact fetched_gzipHdr ph h
  case h_4 ph =>
    split at h <;> obtain ⟨v, c1, h1, h⟩ := bind_eq_ok h <;> cases h
    · exact .extraPayload _ ph (u8_reached h1)
    · exact .extraLength _ ph (u16LE_reached h1)
  case h_5 ph =>
    obtain ⟨b, c1, h1, h⟩ := bind_eq_ok h
    cases h
    exact .gzipName _ ph (u8_reached h1)
  case h_6 ph =>
    obtain ⟨b, c1, h1, h⟩ := bind_eq_ok h
    cases h
    exact .gzipComment _ ph (u8_reached h1)
  case h_7 ph =>
    obtain ⟨v, c1, h1, h⟩ := bind_eq_ok h
    cases h
    exact .gzipHcrc _ ph (u16LE_reached h1)
  case h_8 ph => exact fetched_blockHdr ph h
  case h_9 ph =>
    obtain ⟨len, c1, h1, h⟩ := bind_eq_ok h
    obtain ⟨nlen, c2, h2, h⟩ := bind_eq_ok h
    cases h
    rw [u16LE, discardBits_discardBits] at h1
    have r1 := u16LE_reached h1
    have r2 := u16LE_reached h2
    exact .storedHdr _ _ ph ⟨by rw [r2.pos, r1.pos, alignUp_alignUp_add_mul _ 2]; rfl, (r1.trans r2).stream⟩
  case h_10 ph =>
    obtain ⟨b, c1, h1, h⟩ := bind_eq_ok h
    cases h
    exact .storedByte _ ph (readBits_reached h1)
  case h_11 ph =>
    obtain ⟨l, c1, h1, h⟩ := bind_eq_ok h
    obtain ⟨d, c2, h2, h⟩ := bind_eq_ok h
    obtain ⟨n, c3, h3, h⟩ := bind_eq_ok h
    cases h
    have r1 := readBits_reached h1
    have r2 := readBits_reached h2
    have r3 := readBits_reached h3
    exact .dynHdr _ _ _ ph ⟨by rw [r3.pos, r2.pos, r1.pos]; rfl, (r1.trans r2 |>.trans r3).stream⟩
  case h_12 ph =>
    obtain ⟨v, c1, h1, h⟩ := bind_eq_ok h
    cases h
    exact .dynCllen _ ph (readBits_reached h1)
  case h_13 ph => exact fetched_dynLens ph h
  case h_14 ph => exact fetched_symbol ph h
  case h_16 ph =>
    obtain ⟨v, c1, h1, h⟩ := bind_eq_ok h
    cases h
    exact .zlibTrailer _ ph (u32BE_reached h1)
  case h_17 ph =>
    obtain ⟨crc, c1, h1, h⟩ := bind_eq_ok h
    obtain ⟨n, c2, h2, h⟩ := bind_eq_ok h
    cases h
    have r1 := u32LE_reached h1
    have r2 := u32LE_reached h2
    exact .gzipTrailer _ _ ph ⟨by rw [r2.pos, r1.pos, alignUp_alignUp_add_mul _ 4]; rfl, (r1.trans r2).stream⟩

end Sys2Proof.Machine
end

section
/-! What one step can do, with the registers of each phase: the inversions of `exec`, `coreStep` and `step`. -/

namespace Sys2Proof.Machine

/-- The distance part with a meaning (R204): the cursor moves by its bits, and the distance is in the range of R38. -/
theorem runDist_eq {d : DistPart} (h : d.sym.toNat < 30) (s : State) :
    ∃ dist, (1 ≤ dist ∧ dist ≤ 32768) ∧ runDist d s =
      .done { advance (distanceBits d s) s with mdist := BitVec.ofNat 16 dist, phase := .copy } := by
  have range {n base : Nat} (hb : 1 ≤ base ∧ base + 2 ^ n ≤ 32769) (e : BitVec n) :
      1 ≤ base + e.toNat ∧ base + e.toNat ≤ 32768 := by
    have := e.isLt
    omega
  obtain ⟨sym, extra⟩ := d
  simp only at h
  unfold runDist distanceBits
  generalize hk : sym.toNat = k at *
  interval_cases k
  iterate 4 exact ⟨_, by decide, rfl⟩
  all_goals exact ⟨_, range (by decide) _, rfl⟩

/-- A back-reference (R204): COPY comes next, or the distance symbol faults. -/
theorem lengthRule_eq (k ex len : Nat) (d : DistPart) (s : State) :
    (∃ dist, (1 ≤ dist ∧ dist ≤ 32768) ∧
      lengthRule k ex len d s = .done (matched (llBits k s + ex + distanceBits d s) len dist s)) ∨
    lengthRule k ex len d s = .raise .invalidDistanceSymbol := by
  rcases Nat.lt_or_ge d.sym.toNat 30 with h | h
  · obtain ⟨dist, hdist, e⟩ := runDist_eq h { advance (llBits k s + ex) s with mlen := BitVec.ofNat 9 len }
    refine .inl ⟨dist, hdist, e.trans ?_⟩
    simp [advance, matched, distanceBits, dBits, Nat.add_assoc]
  · rcases runDist_cases d { advance (llBits k s + ex) s with mlen := BitVec.ofNat 9 len } with ⟨hlt, -⟩ | ⟨-, e⟩
    · omega
    · exact .inr e

/-- The parts of a gzip header that can follow `GZIP_EXTRA`, and the first block (R317). -/
def afterGzipExtra : List Phase := [.gzipName, .gzipComment, .gzipHcrc, .blockHdr]

theorem gzAfterComment_mem (flg : Byte) : gzAfterComment flg ∈ afterGzipExtra := by
  unfold gzAfterComment
  split <;> simp [afterGzipExtra]

theorem gzAfterName_mem (flg : Byte) : gzAfterName flg ∈ afterGzipExtra := by
  unfold gzAfterName
  split
  · simp [afterGzipExtra]
  · exact gzAfterComment_mem flg

theorem gzAfterExtra_mem (flg : Byte) : gzAfterExtra flg ∈ afterGzipExtra := by
  unfold gzAfterExtra
  split
  · simp [afterGzipExtra]
  · exact gzAfterName_mem flg

/-- What a rule of the core that fires does, with the phase it fires in; `p` is where it leaves the cursor. `Did` drops
the phases and their registers, this does not. The lengths written to the tables are left open: no range speaks of
them. -/
inductive Fired (s : State) (p : Nat) : State → Prop
  | zlibHdr (w : BitVec 4) (ph : s.phase = .zlibHdr) (hw : 8 ≤ w.toNat) :
      Fired s p { s with pc := p, wbits := w, phase := .blockHdr }
  | gzipHdr (flg : Byte) (ph : s.phase = .gzipHdr) :
      Fired s p { s with pc := p, gflg := flg, phase := gzAfterHdr flg }
  | gzipExtra (n : BitVec 16) (v : Bool) (ph : s.phase = .gzipExtra) (hn : n ≠ 0) :
      Fired s p { s with pc := p, xlen := n, xlenValid := v }
  | gzipPart (n : BitVec 16) (v : Bool) (q : Phase) (ph : s.phase = .gzipExtra ∨ s.phase ∈ afterGzipExtra)
      (hb : s.phase ≠ .blockHdr) (hq : q ∈ afterGzipExtra) :
      Fired s p { s with pc := p, xlen := n, xlenValid := v, phase := q }
  | blockHdr (final : Bool) (btype : BitVec 2) (ll : Vector (BitVec 4) 288) (dl : Vector (BitVec 4) 32) (q : Phase)
      (ph : s.phase = .blockHdr) (hq : q ∈ [Phase.storedHdr, .symbol, .dynHdr]) :
      Fired s p { s with pc := p, bfinal := final, btype := btype, llLen := ll, dLen := dl, phase := q }
  | storedHdr (len : BitVec 16) (q : Phase) (ph : s.phase = .storedHdr) (hp : p % 8 = 0)
      (hq : len = 0 ∧ q = afterBlock s ∨ len ≠ 0 ∧ q = .storedCopy) :
      Fired s p { s with pc := p, slen := len, phase := q }
  | storedByte (b : Byte) (q : Phase) (ph : s.phase = .storedCopy) (hp : p = s.pc + 8)
      (hq : q = afterBlock s ∨ s.slen - 1 ≠ 0 ∧ q = .storedCopy) :
      Fired s p { emitted b s with pc := p, slen := s.slen - 1, phase := q }
  | dynHdr (hlit hdist : BitVec 5) (hclen : BitVec 4) (cl : Vector (BitVec 3) 19) (ph : s.phase = .dynHdr) :
      Fired s p { s with
        pc := p, hlit := hlit.setWidth 9 + 257, hdist := hdist.setWidth 6 + 1, hclen := hclen.setWidth 5 + 4,
        clLen := cl, clidx := 0, phase := .dynCllen }
  | dynCllen (cl : Vector (BitVec 3) 19) (ph : s.phase = .dynCllen) (hc : s.clidx + 1 ≠ s.hclen) :
      Fired s p { s with pc := p, clLen := cl, clidx := s.clidx + 1 }
  | lastCllen (cl : Vector (BitVec 3) 19) (ph : s.phase = .dynCllen) :
      Fired s p { s with pc := p, clLen := cl, clidx := s.clidx + 1, lidx := 0, phase := .dynLens }
  | coded (lens : Vector (BitVec 4) 320) (l : Nat) (ph : s.phase = .dynLens) (hl : l < lengthsWanted s) :
      Fired s p { s with pc := p, lens := lens, lidx := BitVec.ofNat 9 l }
  | lastCoded (lens : Vector (BitVec 4) 320) (l : BitVec 9) (ll : Vector (BitVec 4) 288) (dl : Vector (BitVec 4) 32)
      (ph : s.phase = .dynLens) :
      Fired s p { s with pc := p, lens := lens, lidx := l, llLen := ll, dLen := dl, phase := .symbol }
  | lit (b : Byte) (ph : s.phase = .symbol) : Fired s p { emitted b s with pc := p }
  | eob (ph : s.phase = .symbol) : Fired s p { s with pc := p, phase := afterBlock s }
  | backref (len dist : Nat) (ph : s.phase = .symbol) (hlen : 3 ≤ len ∧ len ≤ 258) (hdist : 1 ≤ dist ∧ dist ≤ 32768) :
      Fired s p { s with pc := p, mlen := BitVec.ofNat 9 len, mdist := BitVec.ofNat 16 dist, phase := .copy }
  | trailer (ph : s.phase = .zlibTrailer ∨ s.phase = .gzipTrailer) : Fired s p { s with pc := p, phase := .done }
  | copied (b : Byte) (q : Phase) (ph : s.phase = .copy) (hp : p = s.pc)
      (hq : q = .symbol ∨ s.mlen - 1 ≠ 0 ∧ q = .copy) :
      Fired s p { emitted b s with pc := p, mlen := s.mlen - 1, phase := q }

/-- What running an element does: it waits for the sink, faults, or fires. -/
inductive Effect (s : State) (p : Nat) (t : State) : Prop
  | held (h : t = s) (hs : s.sinkReady = false)
  | raised (e : ErrSub) (he : e ≠ .none) (h : t = enterError e s)
  | fired (f : Fired s p t)

theorem Effect.of_commit {r : Rule} {s t : State} {p : Nat} (h : commit r s = .next t)
    (hold : r s = .hold → s.sinkReady = false) (raise : ∀ e, r s = .raise e → e ≠ .none)
    (done : r s = .done t → Fired s p t) : Effect s p t := by
  rcases commit_next h with hr | ⟨hr, ht⟩ | ⟨e, hr, ht⟩
  · exact .fired (done hr)
  · exact .held ht (hold hr)
  · exact .raised e (raise e hr) ht

theorem effect_zlibHdr {cmf flg : Byte} {s t : State} (ph : s.phase = .zlibHdr)
    (h : exec (.zlibHdr cmf flg) s = .next t) : Effect s (alignUp s.pc + 16) t := by
  simp only [exec, execZlibHdr] at h
  refine .of_commit h (fun hr => ?_) (fun e hr => ?_) fun hr => ?_ <;> (repeat' split at hr) <;> cases hr
  iterate 4 decide
  rename_i hw _ _
  refine .zlibHdr _ ph ?_
  generalize cmf.extractLsb' 4 4 = w at hw
  bv_omega

theorem effect_gzipHdr {id1 id2 cm flg xfl os : Byte} {mtime : BitVec 32} {s t : State} (ph : s.phase = .gzipHdr)
    (h : exec (.gzipHdr id1 id2 cm flg mtime xfl os) s = .next t) : Effect s (alignUp s.pc + 80) t := by
  simp only [exec, execGzipHdr] at h
  refine .of_commit h (fun hr => ?_) (fun e hr => ?_) fun hr => ?_ <;> (repeat' split at hr) <;> cases hr
  iterate 2 decide
  exact .gzipHdr flg ph

/-- The last line of `GZIP_EXTRA` (R318) with the length that is left. -/
theorem fired_extraStep {n : BitVec 16} {v : Bool} {p : Nat} {s : State} (ph : s.phase = .gzipExtra) :
    Fired s p (extraStep { s with pc := p, xlen := n, xlenValid := v }) := by
  unfold extraStep
  split
  · exact .gzipPart n v _ (.inl ph) (by simp [ph]) (gzAfterExtra_mem s.gflg)
  · exact .gzipExtra n v ph ‹_›

/-- A zero-terminated part (R319, R320) goes on to the next part, or stays. -/
theorem fired_gzipPart {q : Phase} {p : Nat} {s : State} (ph : s.phase ∈ afterGzipExtra) (hb : s.phase ≠ .blockHdr)
    (hq : q ∈ afterGzipExtra) : Fired s p { s with pc := p, phase := q } :=
  .gzipPart s.xlen s.xlenValid q (.inr ph) hb hq

theorem effect_zlibTrailer {v : BitVec 32} {s t : State} (ph : s.phase = .zlibTrailer)
    (h : exec (.zlibTrailer v) s = .next t) : Effect s (alignUp s.pc + 32) t := by
  simp only [exec, execZlibTrailer] at h
  refine .of_commit h (fun hr => ?_) (fun e hr => ?_) fun hr => ?_ <;> split at hr <;> cases hr
  · decide
  · exact .trailer (.inl ph)

theorem effect_gzipTrailer {crc n : BitVec 32} {s t : State} (ph : s.phase = .gzipTrailer)
    (h : exec (.gzipTrailer crc n) s = .next t) : Effect s (alignUp s.pc + 64) t := by
  simp only [exec, execGzipTrailer] at h
  refine .of_commit h (fun hr => ?_) (fun e hr => ?_) fun hr => ?_ <;> (repeat' split at hr) <;> cases hr
  iterate 2 decide
  exact .trailer (.inr ph)

theorem effect_storedHdr {len nlen : BitVec 16} {s t : State} (ph : s.phase = .storedHdr)
    (h : exec (.storedHdr len nlen) s = .next t) : Effect s (alignUp s.pc + 32) t := by
  obtain ⟨-, -, hal⟩ := alignUp_spec s.pc
  simp only [exec, execStoredHdr] at h
  refine .of_commit h (fun hr => ?_) (fun e hr => ?_) fun hr => ?_ <;> split at hr <;> cases hr
  · decide
  · refine .storedHdr len _ ph (by omega) ?_
    split
    · exact .inl ⟨‹_›, rfl⟩
    · exact .inr ⟨‹_›, rfl⟩

theorem effect_storedByte {b : Byte} {s t : State} (ph : s.phase = .storedCopy)
    (h : exec (.storedByte b) s = .next t) : Effect s (s.pc + 8) t := by
  rcases emit_eq b (advance 8 s) with ⟨-, e⟩ | ⟨hs, e⟩
  · simp only [exec, execStoredByte, commit, e, andThen_done] at h
    cases h
    refine .fired (.storedByte b _ ph rfl ?_)
    split
    · exact .inl rfl
    · exact .inr ⟨‹_›, ph⟩
  · simp only [exec, execStoredByte, commit, e, andThen_hold] at h
    cases h
    exact .held rfl hs

theorem effect_lit {b : Byte} {s t : State} (ph : s.phase = .symbol)
    (h : exec (.lit b) s = .next t) : Effect s (s.pc + llBits b.toNat s) t := by
  rcases emit_eq b (advance (llBits b.toNat s) s) with ⟨-, e⟩ | ⟨hs, e⟩
  · simp only [exec, execLit, commit, e] at h
    cases h
    exact .fired (.lit b ph)
  · simp only [exec, execLit, commit, e] at h
    cases h
    exact .held rfl hs

theorem effect_dynCllen {v : BitVec 3} {s t : State} (ph : s.phase = .dynCllen)
    (h : exec (.dynCllen v) s = .next t) : Effect s (s.pc + 3) t := by
  simp only [exec, execDynCllen] at h
  cases h
  split
  · exact .fired (.lastCllen _ ph)
  · exact .fired (.dynCllen _ ph ‹_›)

theorem effect_coded {sym ex n : Nat} {v : BitVec 4} {s t : State} (ph : s.phase = .dynLens)
    (h : commit (codedLength sym ex v n) s = .next t) : Effect s (s.pc + (clBits sym s + ex)) t := by
  rcases appendLengths_cases v n (advance (clBits sym s + ex) s) with ⟨-, e⟩ | ⟨hl, e⟩ | ⟨-, e⟩
  · rw [commit_raise (r := codedLength sym ex v n) e] at h
    cases h
    exact .raised _ (by decide) rfl
  · rw [commit_done (r := codedLength sym ex v n) e] at h
    cases h
    exact .fired (.coded _ _ ph hl)
  · rw [commit_done (r := codedLength sym ex v n) e] at h
    cases h
    exact .fired (.lastCoded _ _ _ _ ph)

theorem effect_backref {k ex len : Nat} {d : DistPart} {s t : State} (ph : s.phase = .symbol)
    (hlen : 3 ≤ len ∧ len ≤ 258) (h : commit (lengthRule k ex len d) s = .next t) :
    Effect s (s.pc + (llBits k s + ex + distanceBits d s)) t := by
  rcases lengthRule_eq k ex len d s with ⟨dist, hdist, e⟩ | e
  · rw [commit_done e] at h
    cases h
    exact .fired (.backref len dist ph hlen hdist)
  · rw [commit_raise e] at h
    cases h
    exact .raised _ (by decide) rfl

/-- The inversion of `exec` on a fetched element: where it fires, the cursor ends where decoding ended. -/
theorem Fetched.effect {s t : State} {i : Instr} {c : Cursor} (f : Fetched s c i) (h : exec i s = .next t) :
    Effect s c.pos t := by
  cases f with
  | faulting _ e he hx p r =>
    rw [hx] at h
    cases h
    exact .raised e he rfl
  | zlibHdr cmf flg ph r => exact r.pos ▸ effect_zlibHdr ph h
  | gzipHdr id1 id2 cm flg mtime xfl os ph r => exact r.pos ▸ effect_gzipHdr ph h
  | extraLength n ph r | extraPayload b ph r =>
    cases h
    exact .fired (r.pos ▸ fired_extraStep ph)
  | gzipName b ph r =>
    cases h
    refine .fired (r.pos ▸ fired_gzipPart (by simp [ph, afterGzipExtra]) (by simp [ph]) ?_)
    split
    · exact gzAfterName_mem s.gflg
    · simp [ph, afterGzipExtra]
  | gzipComment b ph r =>
    cases h
    refine .fired (r.pos ▸ fired_gzipPart (by simp [ph, afterGzipExtra]) (by simp [ph]) ?_)
    split
    · exact gzAfterComment_mem s.gflg
    · simp [ph, afterGzipExtra]
  | gzipHcrc v ph r =>
    cases h
    exact .fired (r.pos ▸ fired_gzipPart (by simp [ph, afterGzipExtra]) (by simp [ph]) (by simp [afterGzipExtra]))
  | blkStored final ph r =>
    cases h
    exact .fired (r.pos ▸ .blockHdr final 0 s.llLen s.dLen .storedHdr ph (by simp))
  | blkFixed final ph r =>
    cases h
    exact .fired (r.pos ▸ .blockHdr final 1 _ _ .symbol ph (by simp))
  | blkDynamic final ph r =>
    cases h
    exact .fired (r.pos ▸ .blockHdr final 2 s.llLen s.dLen .dynHdr ph (by simp))
  | storedHdr len nlen ph r => exact r.pos ▸ effect_storedHdr ph h
  | storedByte b ph r => exact r.pos ▸ effect_storedByte ph h
  | dynHdr hlit hdist hclen ph r =>
    cases h
    exact .fired (r.pos ▸ .dynHdr hlit hdist hclen _ ph)
  | dynCllen v ph r => exact r.pos ▸ effect_dynCllen ph h
  | coded _ sym ex v n ph hx r => exact r.pos ▸ effect_coded ph (hx ▸ h)
  | lit b ph r => exact r.pos ▸ effect_lit ph h
  | eob ph r =>
    cases h
    exact .fired (r.pos ▸ .eob ph)
  | backref _ k ex len d hlen ph hx r => exact r.pos ▸ effect_backref ph hlen (hx ▸ h)
  | zlibTrailer v ph r => exact r.pos ▸ effect_zlibTrailer ph h
  | gzipTrailer crc n ph r => exact r.pos ▸ effect_gzipTrailer ph h

end Sys2Proof.Machine
end

section
/-! What one step can do: the inversions of `coreStep` and `step`, and the induction step every invariant uses. -/

namespace Sys2Proof.Machine

/-- The COPY rule (R163): the distance fault, a hold for the sink, or one byte copied. -/
theorem effect_copy {s t : State} (ph : s.phase = .copy) (h : execCopy s = .next t) : Effect s s.pc t := by
  simp only [execCopy, commit] at h
  by_cases hd : s.total < s.mdist.toNat
  · simp only [if_pos hd] at h
    cases h
    exact .raised _ (by decide) rfl
  · simp only [if_neg hd] at h
    cases hr : s.win.read (copyAddr s) with
    | none =>
      simp only [hr] at h
      cases h
    | some b =>
      rcases emit_eq b s with ⟨-, e⟩ | ⟨hs, e⟩
      · simp only [hr, e, andThen_done] at h
        cases h
        refine .fired (.copied b _ ph rfl ?_)
        split
        · exact .inl rfl
        · exact .inr ⟨‹_›, ph⟩
      · simp only [hr, e, andThen_hold] at h
        cases h
        exact .held rfl hs

/-- Decoding never ends beyond the input (R22, R23). -/
theorem fetch_pos_le {s : State} {i : Instr} {c : Cursor} (hf : fetch s = .ok i c) (hs : CursorBounded s) :
    c.pos ≤ 8 * s.input.length := by
  have hstream := (fetch_cases hf).stream
  simp only [cursor, List.length_drop, length_bitsOfBytes] at hstream
  unfold CursorBounded at hs
  omega

/-- A step of the core leaves the state as it is, or does what an element does, within the input. -/
theorem coreStep_cases {s t : State} (h : coreStep s = .next t) :
    t = s ∨ ∃ p, (CursorBounded s → p ≤ 8 * s.input.length) ∧ Effect s p t := by
  rcases coreStep_eq s with ⟨i, c, hf, e⟩ | ⟨r, -, e⟩ <;> rw [e] at h
  · exact .inr ⟨c.pos, fetch_pos_le hf, (fetch_cases hf).effect h⟩
  · cases r with
    | short =>
      simp only [notFetched] at h
      split at h <;> cases h
      · exact .inr ⟨s.pc, id, .raised .eos (by decide) rfl⟩
      · exact .inl rfl
    | invalidCode =>
      cases h
      exact .inr ⟨s.pc, id, .raised .invalidHuffmanCode (by decide) rfl⟩
    | noElement =>
      simp only [notFetched] at h
      split at h
      · exact .inr ⟨s.pc, id, effect_copy ‹_› h⟩
      · cases h
        exact .inl rfl

/-- What every agent but the core can do (R7): the host, the source and the sink change what is theirs; an abort while
busy; hardware reset; an enabled `start`. -/
inductive Environment (s : State) : State → Prop
  | drives (input : List Byte) (inEos : Bool) (mode : BitVec 2) (windowBits : BitVec 4) (check ready : Bool)
      (pending : List AgentStep) (hin : s.input.length ≤ input.length) :
      Environment s { s with
        input := input, inEos := inEos, cfgMode := mode, cfgWindowBits := windowBits, cfgCheckCrc := check,
        sinkReady := ready, pending := pending }
  | aborts (hb : busy s = true) : Environment s { s with phase := .idle }
  | resets : Environment s (resetCore s)
  | starts (hc : cfgInvalid s = false) :
      Environment s { resetCore s with
        mode := modeOf s.cfgMode, checkCrc := s.cfgCheckCrc,
        wbits := entryWbits (modeOf s.cfgMode) s.cfgWindowBits, phase := entryPhase (modeOf s.cfgMode) }

theorem Environment.same (s : State) : Environment s s :=
  .drives s.input s.inEos s.cfgMode s.cfgWindowBits s.cfgCheckCrc s.sinkReady s.pending (Nat.le_refl _)

theorem Environment.scheduled (s : State) (rest : List AgentStep) : Environment s { s with pending := rest } :=
  .drives s.input s.inEos s.cfgMode s.cfgWindowBits s.cfgCheckCrc s.sinkReady rest (Nat.le_refl _)

/-- The step of an agent is the core's, or one of the environment. -/
theorem agentStep_cases {a : AgentStep} {s t : State} (h : agentStep a s = .next t) :
    a = .core ∧ coreStep s = .next t ∨ Environment s t := by
  cases a with
  | core => exact .inl ⟨rfl, h⟩
  | configure m w k =>
    cases h
    exact .inr (.drives s.input s.inEos m w k s.sinkReady s.pending (Nat.le_refl _))
  | start =>
    cases h
    rcases hostStart_cases s with ⟨-, e⟩ | ⟨-, hc, e⟩ <;> rw [e]
    · exact .inr (.same s)
    · exact .inr (.starts hc)
  | abort =>
    cases h
    unfold hostAbort
    split
    · exact .inr (.aborts ‹_›)
    · exact .inr (.same s)
  | hardwareReset =>
    cases h
    exact .inr .resets
  | deliver b =>
    cases h
    unfold sourceDeliver
    split
    · exact .inr (.drives (s.input ++ [b]) s.inEos s.cfgMode s.cfgWindowBits s.cfgCheckCrc s.sinkReady s.pending
        (by simp))
    · exact .inr (.same s)
  | endInput =>
    cases h
    unfold sourceEnd
    split
    · exact .inr (.drives s.input true s.cfgMode s.cfgWindowBits s.cfgCheckCrc s.sinkReady s.pending (Nat.le_refl _))
    · exact .inr (.same s)
  | sink r =>
    cases h
    exact .inr (.drives s.input s.inEos s.cfgMode s.cfgWindowBits s.cfgCheckCrc r s.pending (Nat.le_refl _))

theorem Fired.pc {s t : State} {p : Nat} (f : Fired s p t) : t.pc = p := by cases f <;> rfl

theorem Fired.input {s t : State} {p : Nat} (f : Fired s p t) : t.input = s.input := by cases f <;> rfl

theorem Fired.mode {s t : State} {p : Nat} (f : Fired s p t) : t.mode = s.mode := by cases f <;> rfl

theorem Fired.errors {s t : State} {p : Nat} (f : Fired s p t) : t.errClass = s.errClass ∧ t.errSub = s.errSub := by
  cases f <;> exact ⟨rfl, rfl⟩

theorem Fired.phase_ne_error {s t : State} {p : Nat} (f : Fired s p t) : s.phase ≠ .error := by
  intro e
  cases f <;> simp_all [afterGzipExtra]

/-- The phases a firing of the core never goes to: those of an operation's entry, and ERROR (R341, R380). -/
def unentered : List Phase := [.idle, .zlibHdr, .gzipHdr, .error]

theorem afterBlock_not_unentered (s : State) : afterBlock s ∉ unentered := by
  rcases afterBlock_cases s with ⟨-, e⟩ | ⟨-, -, e⟩ | ⟨-, -, e⟩ | ⟨-, -, e⟩ <;> simp [e, unentered]

theorem Fired.not_unentered {s t : State} {p : Nat} (f : Fired s p t) : t.phase ∉ unentered := by
  cases f with
  | gzipHdr flg ph => rcases gzAfterHdr_cases flg with e | e | e | e | e <;> simp [e, unentered]
  | gzipExtra n v ph | dynCllen cl ph | coded lens l ph | lit b ph => simp [ph, unentered]
  | gzipPart n v q ph hb hq =>
    simp only [afterGzipExtra, List.mem_cons, List.not_mem_nil, or_false] at hq
    rcases hq with rfl | rfl | rfl | rfl <;> simp [unentered]
  | blockHdr final btype ll dl q ph hq =>
    simp only [List.mem_cons, List.not_mem_nil, or_false] at hq
    rcases hq with rfl | rfl | rfl <;> simp [unentered]
  | storedHdr len q ph hp hq =>
    rcases hq with ⟨-, rfl⟩ | ⟨-, rfl⟩
    · exact afterBlock_not_unentered s
    · simp [unentered]
  | storedByte b q ph hp hq =>
    rcases hq with rfl | ⟨-, rfl⟩
    · exact afterBlock_not_unentered s
    · simp [unentered]
  | eob ph => exact afterBlock_not_unentered s
  | copied b q ph hp hq => rcases hq with rfl | ⟨-, rfl⟩ <;> simp [unentered]
  | zlibHdr | dynHdr | lastCllen | lastCoded | backref | trailer => simp [unentered]

/-- A property that the environment, fault entry and every firing keep is kept by every step of any agent. -/
theorem step_keeps {P : State → Prop} (environment : ∀ {s t}, Environment s t → P s → P t)
    (raised : ∀ {s e}, e ≠ .none → P s → P (enterError e s))
    (fired : ∀ {s p t}, (CursorBounded s → p ≤ 8 * s.input.length) → Fired s p t → P s → P t) {s t : State}
    (hs : P s) (h : step s = .next t) : P t := by
  have core {s : State} (hs : P s) (h : coreStep s = .next t) : P t := by
    rcases coreStep_cases h with rfl | ⟨p, hp, ⟨rfl, -⟩ | ⟨e, he, rfl⟩ | f⟩
    · exact hs
    · exact hs
    · exact raised he hs
    · exact fired hp f hs
  rcases step_eq s with ⟨-, e⟩ | ⟨a, rest, -, e⟩ <;> rw [e] at h
  · exact core hs h
  · have hrest : P { s with pending := rest } := environment (.scheduled s rest) hs
    rcases agentStep_cases h with ⟨-, hc⟩ | he
    · exact core hrest hc
    · exact environment he hrest

end Sys2Proof.Machine
end

section
/-! The statements about what every step keeps. -/

namespace Sys2Proof.Machine

/-! ### TOTAL and the checksums (R42, R280) -/

theorem adlerOf_concat (bs : List Byte) (b : Byte) :
    adlerOf (bs ++ [b]) = adlerStep (adlerOf bs).1 (adlerOf bs).2 b := by
  simp [adlerOf]

theorem crcOf_concat (bs : List Byte) (b : Byte) : crcOf (bs ++ [b]) = crcStep (crcOf bs) b := by
  simp [crcOf]

/-- `Emit` (R161) steps the accumulators by the byte it appends. -/
theorem accumulated_emitted {s : State} (h : Accumulated s) (b : Byte) : Accumulated (emitted b s) where
  total := by simp [h.total]
  adler := by simp [adlerOf_concat, ← h.adler]
  crc := by simp [crcOf_concat, ← h.crc]

/-- Only the three elements that emit a byte touch an accumulator. -/
theorem accumulated_fired {s t : State} {p : Nat} (f : Fired s p t) (h : Accumulated s) : Accumulated t := by
  cases f with
  | storedByte b | lit b | copied b =>
    have e := accumulated_emitted h b
    exact ⟨e.total, e.adler, e.crc⟩
  | _ => exact ⟨h.total, h.adler, h.crc⟩

theorem accumulated_environment {s t : State} (e : Environment s t) (h : Accumulated s) : Accumulated t := by
  cases e with
  | drives | aborts => exact ⟨h.total, h.adler, h.crc⟩
  | resets | starts => exact ⟨rfl, rfl, rfl⟩

/-- Settles O41: `Emit` steps every accumulator by the byte it appends; nothing else writes one but reset and start. -/
theorem stepKeepsAccumulators : Obligations.StepKeepsAccumulators := fun _ _ =>
  step_keeps accumulated_environment (fun _ h => ⟨h.total, h.adler, h.crc⟩) fun _ => accumulated_fired

/-! ### The window (R26, R41, R65) -/

theorem wbits_pow_le (w : BitVec 4) : 2 ^ w.toNat ≤ 2 ^ 15 :=
  Nat.pow_le_pow_right (by decide) (by have := w.isLt; omega)

/-- The window speaks of six registers, and of PHASE only before the zlib header. -/
theorem WindowHolds.congr {s t : State} (h : WindowHolds s) (win : t.win = s.win) (wbits : t.wbits = s.wbits)
    (total : t.total = s.total) (wpos : t.wpos = s.wpos) (output : t.output = s.output) (ph : t.phase ≠ .zlibHdr) :
    WindowHolds t where
  form := win ▸ h.form
  wbits := wbits ▸ h.wbits
  total := by rw [total, output, h.total]
  wpos := by rw [wpos, total, wbits, h.wpos]
  header := fun e => absurd e ph
  cells := by
    rw [win, wbits, output]
    exact h.cells

/-- While no byte has been delivered the window is as empty as after `start`, whatever WBITS is (R301). -/
theorem windowHolds_of_empty {s : State} (form : s.win.wf = true) (wbits : 8 ≤ s.wbits.toNat) (output : s.output = [])
    (total : s.total = 0) (wpos : s.wpos = 0) : WindowHolds s where
  form := form
  wbits := wbits
  total := by simp [total, output]
  wpos := by simp [wpos, total]
  header := fun _ => output
  cells := by simp [output]

/-- Two positions of OUT less than a window apart have different cells. -/
theorem cell_ne {n m w : Nat} (hw : 2 ^ w ≤ 2 ^ 15) (hlt : n < m) (hle : m < n + 2 ^ w) :
    (BitVec.ofNat 15 (n % 2 ^ w)).toNat ≠ m % 2 ^ w := by
  have hn : n % 2 ^ w < 2 ^ w := Nat.mod_lt _ (Nat.two_pow_pos w)
  rw [BitVec.toNat_ofNat, Nat.mod_eq_of_lt (by omega)]
  intro e
  have hdvd : 2 ^ w ∣ m - n := (Nat.modEq_iff_dvd' (Nat.le_of_lt hlt)).1 e
  have := Nat.le_of_dvd (by omega) hdvd
  omega

/-- `Emit` (R161) writes the new byte's cell, the oldest one of the ring, and moves on to the next (R65). -/
theorem windowHolds_emitted {s : State} (h : WindowHolds s) (ph : s.phase ≠ .zlibHdr) (b : Byte) :
    WindowHolds (emitted b s) where
  form := Memory.wf_write h.form _ _
  wbits := h.wbits
  total := by simp [h.total]
  wpos := by
    have hpow := wbits_pow_le s.wbits
    have hlt : (s.total + 1) % 2 ^ s.wbits.toNat < 2 ^ s.wbits.toNat := Nat.mod_lt _ (Nat.two_pow_pos _)
    simp only [emitted_wpos, emitted_total, emitted_wbits, BitVec.toNat_ofNat, h.wpos, Nat.mod_add_mod]
    exact Nat.mod_eq_of_lt (by omega)
  header := fun e => absurd e ph
  cells := by
    intro n hn hwin
    simp only [emitted_output, List.length_append, List.length_singleton] at hn hwin
    simp only [emitted_win, emitted_wbits, emitted_output] at hwin ⊢
    rcases Nat.lt_or_ge n s.output.length with hlt | hge
    · have hne : BitVec.ofNat 15 (n % 2 ^ s.wbits.toNat) ≠ s.wpos := by
        intro e
        refine cell_ne (wbits_pow_le s.wbits) hlt (by omega) ?_
        rw [e, h.wpos, h.total]
      rw [Memory.read_write_other _ hne, List.getElem?_append_left hlt]
      exact h.cells n hlt (by omega)
    · obtain rfl : n = s.output.length := by omega
      have hat : BitVec.ofNat 15 (s.output.length % 2 ^ s.wbits.toNat) = s.wpos := by
        rw [← h.total, ← h.wpos, BitVec.ofNat_toNat, BitVec.setWidth_eq]
      rw [hat, Memory.read_write_same]
      simp

theorem windowHolds_fired {s t : State} {p : Nat} (f : Fired s p t) (h : WindowHolds s) : WindowHolds t := by
  have hq : t.phase ≠ .zlibHdr := fun e => f.not_unentered (by simp [e, unentered])
  cases f with
  | zlibHdr w ph hw =>
    have empty := h.header ph
    have total : s.total = 0 := by simp [h.total, empty]
    exact windowHolds_of_empty h.form hw empty total (BitVec.eq_of_toNat_eq (by simp [h.wpos, total]))
  | storedByte b q ph | lit b ph | copied b q ph =>
    exact (windowHolds_emitted h (by simp [ph]) b).congr rfl rfl rfl rfl rfl hq
  | _ => exact h.congr rfl rfl rfl rfl rfl hq

/-- Every legal configuration has a window of at least 2^8 bytes (R341, R343). -/
theorem entryWbits_ge {s : State} (hc : cfgInvalid s = false) :
    8 ≤ (entryWbits (modeOf s.cfgMode) s.cfgWindowBits).toNat := by
  simp only [cfgInvalid, decide_eq_false_iff_not, not_or, not_and, Nat.not_lt] at hc
  unfold modeOf
  split
  · exact hc.2 ‹_›
  · split <;> simp [entryWbits, Config.zlibStartWindowBits, Config.gzipWindowBits]

theorem windowHolds_environment {s t : State} (e : Environment s t) (h : WindowHolds s) : WindowHolds t := by
  cases e with
  | drives => exact ⟨h.form, h.wbits, h.total, h.wpos, h.header, h.cells⟩
  | aborts => exact h.congr rfl rfl rfl rfl rfl (by simp)
  | resets => exact windowHolds_of_empty h.form (by simp) rfl rfl rfl
  | starts hc => exact windowHolds_of_empty h.form (entryWbits_ge hc) rfl rfl rfl

/-- Settles O42: `Emit` keeps the ring, WBITS moves while OUT is still empty, and reset and start empty OUT. -/
theorem stepKeepsWindow : Obligations.StepKeepsWindow := fun _ _ =>
  step_keeps windowHolds_environment (fun _ h => h.congr rfl rfl rfl rfl rfl (by simp)) fun _ => windowHolds_fired

end Sys2Proof.Machine
end

section
/-! The cursor, the registers of a phase, the error registers and the modes. -/

namespace Sys2Proof.Machine

/-! ### The cursor (R22, R23) -/

/-- Settles O39: decoding and meaning agree on the bits of every element (log 12). -/
theorem pcFollowsTheBits : Obligations.PcFollowsTheBits := by
  intro s t i c hf hx hne hs
  cases (fetch_cases hf).effect hx with
  | held _ hs' => simp [hs] at hs'
  | raised e _ ht => exact absurd (ht ▸ enterError_phase e s) hne
  | fired f => exact f.pc

theorem cursorBounded_fired {s t : State} {p : Nat} (hp : CursorBounded s → p ≤ 8 * s.input.length) (f : Fired s p t)
    (h : CursorBounded s) : CursorBounded t := by
  unfold CursorBounded
  rw [f.pc, f.input]
  exact hp h

theorem cursorBounded_environment {s t : State} (e : Environment s t) (h : CursorBounded s) : CursorBounded t := by
  cases e with
  | drives input _ _ _ _ _ _ hin => exact Nat.le_trans h (Nat.mul_le_mul_left 8 hin)
  | aborts => exact h
  | resets | starts => exact Nat.zero_le _

/-- Settles O43: a firing ends where decoding ended, on the input's own stream of bits. -/
theorem stepKeepsCursor : Obligations.StepKeepsCursor := fun _ _ =>
  step_keeps cursorBounded_environment (fun _ h => h) cursorBounded_fired

/-! ### The registers of a phase (R29 to R32, R38, R179, R318) -/

/-- The phases in which a register has a range. -/
def ranged : List Phase := [.storedCopy, .dynCllen, .dynLens, .copy, .gzipHdr, .gzipExtra]

/-- In every other phase nothing is said of the registers. -/
theorem phaseRegisters_of_not_ranged {s : State} (h : s.phase ∉ ranged) : PhaseRegisters s := by
  simp only [ranged, List.mem_cons, List.not_mem_nil, or_false, not_or] at h
  obtain ⟨h1, h2, h3, h4, h5, h6⟩ := h
  exact ⟨fun e => absurd e h1, fun e => absurd e (by simp [h2, h3]), fun e => absurd e h2, fun e => absurd e h3,
    fun e => absurd e h4, fun e => absurd e h5, fun e => absurd e h6⟩

theorem afterBlock_not_ranged (s : State) : afterBlock s ∉ ranged := by
  rcases afterBlock_cases s with ⟨-, e⟩ | ⟨-, -, e⟩ | ⟨-, -, e⟩ | ⟨-, -, e⟩ <;> simp [e, ranged]

/-- The ranges of HLIT, HDIST and HCLEN (R30). -/
def CountsInRange (hlit : BitVec 9) (hdist : BitVec 6) (hclen : BitVec 5) : Prop :=
  (257 ≤ hlit.toNat ∧ hlit.toNat ≤ 288) ∧ (1 ≤ hdist.toNat ∧ hdist.toNat ≤ 32) ∧ (4 ≤ hclen.toNat ∧ hclen.toNat ≤ 19)

/-- The fields of a dynamic header with their offsets are in range (R182). -/
theorem countsInRange_dynHdr (hlit hdist : BitVec 5) (hclen : BitVec 4) :
    CountsInRange (hlit.setWidth 9 + 257) (hdist.setWidth 6 + 1) (hclen.setWidth 5 + 4) := by
  refine ⟨⟨?_, ?_⟩, ⟨?_, ?_⟩, ?_, ?_⟩ <;> bv_omega

/-! In each ranged phase, the registers it reads are all that counts. -/

theorem phaseRegisters_storedCopy {s : State} (ph : s.phase = .storedCopy) (slen : s.slen ≠ 0) (pc : s.pc % 8 = 0) :
    PhaseRegisters s := by
  constructor <;> simp_all

theorem phaseRegisters_dynCllen {s : State} (ph : s.phase = .dynCllen)
    (counts : CountsInRange s.hlit s.hdist s.hclen) (clidx : s.clidx.toNat < s.hclen.toNat) : PhaseRegisters s := by
  constructor <;> simp_all [CountsInRange]

theorem phaseRegisters_dynLens {s : State} (ph : s.phase = .dynLens)
    (counts : CountsInRange s.hlit s.hdist s.hclen) (lidx : s.lidx.toNat < lengthsWanted s) : PhaseRegisters s := by
  constructor <;> simp_all [CountsInRange, lengthsWanted]

theorem phaseRegisters_copy {s : State} (ph : s.phase = .copy) (mlen : 1 ≤ s.mlen.toNat ∧ s.mlen.toNat ≤ 258)
    (mdist : 1 ≤ s.mdist.toNat ∧ s.mdist.toNat ≤ 32768) : PhaseRegisters s := by
  constructor <;> simp [ph, mlen, mdist]

theorem phaseRegisters_gzipHdr {s : State} (ph : s.phase = .gzipHdr) (xlenValid : s.xlenValid = false) :
    PhaseRegisters s := by
  constructor <;> simp [ph, xlenValid]

theorem phaseRegisters_gzipExtra {s : State} (ph : s.phase = .gzipExtra) (xlen : s.xlenValid = true → s.xlen ≠ 0) :
    PhaseRegisters s := by
  constructor <;> simp_all

theorem phaseRegisters_fired {s t : State} {p : Nat} (f : Fired s p t) (h : PhaseRegisters s) : PhaseRegisters t := by
  cases f with
  | gzipHdr flg ph =>
    rcases gzAfterHdr_cases flg with e | e | e | e | e
    · exact phaseRegisters_gzipExtra e (by simp [h.gzipHdr ph])
    all_goals exact phaseRegisters_of_not_ranged (by simp [e, ranged])
  | gzipExtra n v ph hn => exact phaseRegisters_gzipExtra ph fun _ => hn
  | gzipPart n v q ph hb hq =>
    refine phaseRegisters_of_not_ranged fun hr => ?_
    simp only [afterGzipExtra, ranged, List.mem_cons, List.not_mem_nil, or_false] at hq hr
    rcases hq with rfl | rfl | rfl | rfl <;> simp at hr
  | blockHdr final btype ll dl q ph hq =>
    refine phaseRegisters_of_not_ranged fun hr => ?_
    simp only [ranged, List.mem_cons, List.not_mem_nil, or_false] at hq hr
    rcases hq with rfl | rfl | rfl <;> simp at hr
  | storedHdr len q ph hp hq =>
    rcases hq with ⟨-, rfl⟩ | ⟨hlen, rfl⟩
    · exact phaseRegisters_of_not_ranged (afterBlock_not_ranged s)
    · exact phaseRegisters_storedCopy rfl hlen hp
  | storedByte b q ph hp hq =>
    obtain ⟨-, hpc⟩ := h.storedCopy ph
    rcases hq with rfl | ⟨hlen, rfl⟩
    · exact phaseRegisters_of_not_ranged (afterBlock_not_ranged s)
    · exact phaseRegisters_storedCopy rfl hlen (by simp only [hp]; omega)
  | dynHdr hlit hdist hclen cl ph =>
    obtain ⟨hl, hd, hc⟩ := countsInRange_dynHdr hlit hdist hclen
    exact phaseRegisters_dynCllen rfl ⟨hl, hd, hc⟩ (Nat.lt_of_lt_of_le (by simp) hc.1)
  | dynCllen cl ph hc =>
    have counts := h.counts (.inl ph)
    have hlt := h.dynCllen ph
    refine phaseRegisters_dynCllen ph counts ?_
    generalize s.hclen = hclen at *
    generalize s.clidx = clidx at *
    simp only
    bv_omega
  | lastCllen cl ph =>
    have counts := h.counts (.inl ph)
    exact phaseRegisters_dynLens rfl counts (by simp only [lengthsWanted]; simp; omega)
  | coded lens l ph hl =>
    have counts := h.counts (.inr ph)
    refine phaseRegisters_dynLens ph counts ?_
    simp only [lengthsWanted, BitVec.toNat_ofNat] at hl ⊢
    exact Nat.lt_of_le_of_lt (Nat.mod_le _ _) hl
  | backref len dist ph hlen hdist =>
    refine phaseRegisters_copy rfl ?_ ?_
    · simp only [BitVec.toNat_ofNat]
      omega
    · simp only [BitVec.toNat_ofNat]
      omega
  | copied b q ph hp hq =>
    obtain ⟨hmlen, hmdist⟩ := h.copy ph
    rcases hq with rfl | ⟨hlen, rfl⟩
    · exact phaseRegisters_of_not_ranged (by simp [ranged])
    · refine phaseRegisters_copy rfl ?_ hmdist
      generalize s.mlen = mlen at *
      simp only
      bv_omega
  | eob ph => exact phaseRegisters_of_not_ranged (afterBlock_not_ranged s)
  | lit b ph => exact phaseRegisters_of_not_ranged (by simp [ph, ranged])
  | zlibHdr | lastCoded | trailer => exact phaseRegisters_of_not_ranged (by simp [ranged])

theorem phaseRegisters_environment {s t : State} (e : Environment s t) (h : PhaseRegisters s) : PhaseRegisters t := by
  cases e with
  | drives => exact ⟨h.storedCopy, h.counts, h.dynCllen, h.dynLens, h.copy, h.gzipHdr, h.gzipExtra⟩
  | aborts | resets => exact phaseRegisters_of_not_ranged (by simp [ranged])
  | starts =>
    cases modeOf s.cfgMode with
    | raw | zlib => exact phaseRegisters_of_not_ranged (by simp [entryPhase, ranged])
    | gzip => exact phaseRegisters_gzipHdr rfl rfl

/-- Settles O44: by the cases of a firing, each in the registers its phase reads. -/
theorem stepKeepsPhaseRegisters : Obligations.StepKeepsPhaseRegisters := fun _ _ =>
  step_keeps phaseRegisters_environment (fun _ _ => phaseRegisters_of_not_ranged (by simp [ranged]))
    fun _ => phaseRegisters_fired

/-! ### The error registers and the modes (R50, R376, R90, R324) -/

theorem ErrorsMatch.errSub_none {s : State} (h : ErrorsMatch s) (hp : s.phase ≠ .error) : s.errSub = .none :=
  Decidable.of_not_not fun hne => hp (h.phase.2 hne)

/-- Without an error the registers are clear and PHASE is not ERROR. -/
theorem errorsMatch_of_clear {s : State} (cls : s.errClass = .none) (sub : s.errSub = .none) (hp : s.phase ≠ .error) :
    ErrorsMatch s := ⟨by simp [cls, sub, subClass], by simp [hp, sub]⟩

theorem errorsMatch_raised {s : State} {e : ErrSub} (he : e ≠ .none) : ErrorsMatch (enterError e s) :=
  ⟨rfl, by simp [he]⟩

theorem errorsMatch_fired {s t : State} {p : Nat} (f : Fired s p t) (h : ErrorsMatch s) : ErrorsMatch t := by
  obtain ⟨hcls, hsub⟩ := f.errors
  have hs := h.errSub_none f.phase_ne_error
  refine errorsMatch_of_clear ?_ (hsub.trans hs) fun e => f.not_unentered (by simp [e, unentered])
  rw [hcls, h.cls, hs]
  rfl

theorem errorsMatch_environment {s t : State} (e : Environment s t) (h : ErrorsMatch s) : ErrorsMatch t := by
  cases e with
  | drives => exact ⟨h.cls, h.phase⟩
  | aborts hb =>
    simp only [busy, decide_eq_true_eq] at hb
    obtain ⟨-, -, hp⟩ := hb
    have hs := h.errSub_none hp
    exact errorsMatch_of_clear (by simp [h.cls, hs, subClass]) hs (by simp)
  | resets => exact errorsMatch_of_clear rfl rfl (by simp)
  | starts => exact errorsMatch_of_clear rfl rfl (by cases modeOf s.cfgMode <;> simp [entryPhase])

/-- The wrapper a phase belongs to; none for the phases that every operation has (R90). -/
def wrapperOf : Phase → Option Mode
  | .zlibHdr | .zlibTrailer => some .zlib
  | .gzipHdr | .gzipExtra | .gzipName | .gzipComment | .gzipHcrc | .gzipTrailer => some .gzip
  | _ => none

theorem modeMatches_iff {s : State} : ModeMatches s ↔
    (∀ m, wrapperOf s.phase = some m → s.mode = m) ∧ (s.mode = .gzip → s.wbits = Config.gzipWindowBits) := by
  constructor
  · rintro ⟨hz, hg, hw⟩
    refine ⟨fun m hm => ?_, hw⟩
    cases hp : s.phase <;> rw [hp] at hm <;> cases hm <;> simp_all
  · rintro ⟨hm, hw⟩
    refine ⟨?_, ?_, hw⟩
    · rintro (e | e) <;> exact hm _ (by rw [e]; rfl)
    · rintro (e | e | e | e | e | e) <;> exact hm _ (by rw [e]; rfl)

theorem wrapperOf_afterBlock {s : State} {m : Mode} (h : wrapperOf (afterBlock s) = some m) : s.mode = m := by
  rcases afterBlock_cases s with ⟨-, e⟩ | ⟨-, -, e⟩ | ⟨-, hm, e⟩ | ⟨-, hm, e⟩ <;> rw [e] at h <;> cases h
  · exact hm
  · exact hm

/-- A firing stays in the wrapper it is in, or enters the trailer of its own mode (R177). -/
theorem Fired.wrapper {s t : State} {p : Nat} (f : Fired s p t) {m : Mode} (h : wrapperOf t.phase = some m) :
    wrapperOf s.phase = some m ∨ s.mode = m := by
  cases f with
  | gzipHdr flg ph =>
    left
    rw [ph, ← h]
    rcases gzAfterHdr_cases flg with e | e | e | e | e <;> simp_all [wrapperOf]
  | gzipPart n v q ph hb hq =>
    left
    simp only [afterGzipExtra, List.mem_cons, List.not_mem_nil, or_false] at hq ph
    rw [← h]
    rcases hq with rfl | rfl | rfl | rfl <;> rcases ph with e | e | e | e | e <;> simp_all [wrapperOf]
  | blockHdr final btype ll dl q ph hq =>
    simp only [List.mem_cons, List.not_mem_nil, or_false] at hq
    rcases hq with rfl | rfl | rfl <;> cases h
  | storedHdr len q ph hp hq =>
    rcases hq with ⟨-, rfl⟩ | ⟨-, rfl⟩
    · exact .inr (wrapperOf_afterBlock h)
    · cases h
  | storedByte b q ph hp hq =>
    rcases hq with rfl | ⟨-, rfl⟩
    · exact .inr (wrapperOf_afterBlock h)
    · cases h
  | eob ph => exact .inr (wrapperOf_afterBlock h)
  | copied b q ph hp hq => rcases hq with rfl | ⟨-, rfl⟩ <;> cases h
  | gzipExtra | dynCllen | coded | lit => exact .inl h
  | zlibHdr | dynHdr | lastCllen | lastCoded | backref | trailer => cases h

/-- Only the zlib header writes WBITS (R301). -/
theorem Fired.wbits {s t : State} {p : Nat} (f : Fired s p t) (h : s.phase ≠ .zlibHdr) : t.wbits = s.wbits := by
  cases f with
  | zlibHdr w ph => exact absurd ph h
  | _ => rfl

theorem modeMatches_fired {s t : State} {p : Nat} (f : Fired s p t) (h : ModeMatches s) : ModeMatches t := by
  obtain ⟨hwrap, hwin⟩ := modeMatches_iff.1 h
  refine modeMatches_iff.2 ⟨fun m hm => ?_, fun hm => ?_⟩
  · rw [f.mode]
    exact (f.wrapper hm).elim (hwrap m) id
  · rw [f.mode] at hm
    have hz : s.phase ≠ .zlibHdr := fun e => by simp [h.zlib (.inl e)] at hm
    rw [f.wbits hz, hwin hm]

theorem modeMatches_environment {s t : State} (e : Environment s t) (h : ModeMatches s) : ModeMatches t := by
  cases e with
  | drives => exact ⟨h.zlib, h.gzip, h.window⟩
  | aborts => exact modeMatches_iff.2 ⟨by simp [wrapperOf], h.window⟩
  | resets => exact modeMatches_iff.2 ⟨by simp [wrapperOf], by simp⟩
  | starts =>
    refine modeMatches_iff.2 ?_
    simp only
    cases modeOf s.cfgMode <;> simp [entryPhase, wrapperOf, entryWbits]

/-- Settles O45: a firing neither leaves nor enters ERROR, and stays in its wrapper or enters its own mode's trailer. -/
theorem stepKeepsErrorsAndModes : Obligations.StepKeepsErrorsAndModes := fun _ _ hstep =>
  ⟨fun h => step_keeps errorsMatch_environment (fun he _ => errorsMatch_raised he) (fun _ => errorsMatch_fired) h hstep,
    fun h => step_keeps modeMatches_environment
      (fun _ h => modeMatches_iff.2 ⟨by simp [wrapperOf], h.window⟩) (fun _ => modeMatches_fired) h hstep⟩

end Sys2Proof.Machine
end

section
/-! What reset leaves, what the host reads, and which step runs. -/

namespace Sys2Proof.Machine

/-- Settles O1: reset in any state and an enabled `start` begin with `resetCore`. -/
theorem resetValues : Obligations.ResetValues := by
  unfold Obligations.ResetValues
  intro table
  have core (s : State) : table (resetCore s) := by
    simp only [table]
    exact ⟨rfl, rfl, rfl, rfl, rfl, rfl, rfl, rfl, rfl, rfl, rfl, rfl, rfl, rfl, rfl, rfl, rfl, rfl, rfl, rfl, rfl, rfl,
      rfl, rfl, rfl, rfl, rfl, rfl⟩
  refine ⟨⟨core State.reset, rfl, rfl, rfl, rfl⟩, fun s => ⟨core s, rfl, rfl, rfl, rfl⟩, fun s hb hc => ?_⟩
  rcases hostStart_cases s with ⟨hb' | hc', -⟩ | ⟨-, -, e⟩
  · simp [hb] at hb'
  · simp [hc] at hc'
  · rw [e]
    exact core s

/-- In IDLE, DONE and ERROR there is no element to run (R24). -/
theorem coreStep_of_not_busy {s : State} (h : s.phase = .idle ∨ s.phase = .done ∨ s.phase = .error) :
    coreStep s = .next s := by
  have hf : fetch s = .reject .noElement := by
    rcases h with h | h | h <;> simp [fetch, decode, decodeCtx, h]
  rcases h with h | h | h <;> simp [coreStep, hf, notFetched, h]

theorem not_busy_of_terminal {s : State} (h : s.phase = .done ∨ s.phase = .error) : busy s = false := by
  rcases h with h | h <;> simp [busy, h]

/-- Settles O6: no element is fetched there, and abort and the source do nothing while not busy. -/
theorem terminalPhases : Obligations.TerminalPhases := by
  refine ⟨fun s => coreStep_of_not_busy, fun s t a hs hstart hreset h => ?_, fun s t a hb hcore habort hreset h => ?_⟩
  · have hb := not_busy_of_terminal hs
    cases a with
    | core =>
      rw [agentStep, coreStep_of_not_busy (.inr hs)] at h
      cases h
      exact ⟨rfl, rfl, rfl, rfl, rfl⟩
    | start => exact absurd rfl hstart
    | hardwareReset => exact absurd rfl hreset
    | configure | sink =>
      cases h
      exact ⟨rfl, rfl, rfl, rfl, rfl⟩
    | abort | deliver | endInput =>
      simp only [agentStep, hostAbort, sourceDeliver, sourceEnd, sourceEnabled, hb] at h
      cases h
      exact ⟨rfl, rfl, rfl, rfl, rfl⟩
  · cases a with
    | core => exact absurd rfl hcore
    | abort => exact absurd rfl habort
    | hardwareReset => exact absurd rfl hreset
    | start =>
      simp only [agentStep, hostStart, hb] at h
      cases h
      rfl
    | configure | sink =>
      cases h
      rfl
    | deliver | endInput =>
      simp only [agentStep, sourceDeliver, sourceEnd] at h
      split at h <;> cases h <;> rfl

/-- `ADLER_B` above `ADLER_A` (R282). -/
theorem adler32_eq (s : State) : adler32 s = (s.adlerB.setWidth 32 <<< 16) ||| s.adlerA.setWidth 32 := by
  have hlt : s.adlerB.toNat <<< 16 < 2 ^ 32 := by
    have := s.adlerB.isLt
    rw [Nat.shiftLeft_eq]
    omega
  apply BitVec.eq_of_toNat_eq
  have happ : (adler32 s).toNat = s.adlerB.toNat <<< 16 ||| s.adlerA.toNat := BitVec.toNat_append s.adlerB s.adlerA
  rw [happ, BitVec.toNat_or, BitVec.toNat_shiftLeft, BitVec.toNat_setWidth_of_le (by decide),
    BitVec.toNat_setWidth_of_le (by decide), Nat.mod_eq_of_lt hlt]

/-- Settles O7: the ports by definition but for `adler32_eq`, the numbers by evaluation. -/
theorem statusPorts : Obligations.StatusPorts :=
  ⟨fun s => by rw [← adler32_eq]; rfl, by decide, by decide⟩

/-- Settles O37: the cursor does not depend on the schedule. -/
theorem stepRunsDecoded : Obligations.StepRunsDecoded := by
  intro s i c h
  have core {s : State} (h : fetch s = .ok i c) : coreStep s = exec i s := by simp [coreStep, h]
  refine ⟨core h, fun hp => ?_, fun rest hp => ?_⟩
  · rw [step, stepAgents, hp]
    exact core h
  · rw [step, stepAgents, hp]
    exact core (s := { s with pending := rest }) h

/-- Settles O46: nothing is in OUT, and IDLE is a phase of no wrapper and with no range. -/
theorem resetMeetsInvariants : Obligations.ResetMeetsInvariants :=
  ⟨⟨rfl, rfl, rfl⟩, windowHolds_of_empty rfl (by decide) rfl rfl rfl, Nat.zero_le _,
    errorsMatch_of_clear rfl rfl (by decide), phaseRegisters_of_not_ranged (by decide),
    modeMatches_iff.2 ⟨by simp [State.reset, wrapperOf], by simp [State.reset]⟩⟩

end Sys2Proof.Machine
end

section
/-! A symbol's code decodes to the symbol (R142 to R145). -/

namespace Sys2Proof.Machine

/-! ### The walk along a code -/

theorem msbBits_succ (n code : Nat) : msbBits (n + 1) code = code.testBit n :: msbBits n code := by
  simp only [msbBits, List.range_succ_eq_map, List.map_cons, List.map_map, Nat.add_sub_cancel, Nat.sub_zero]
  congr 1
  refine List.map_congr_left fun i _ => ?_
  simp only [Function.comp_apply, Nat.succ_eq_add_one]
  congr 1
  omega

theorem length_msbBits (n code : Nat) : (msbBits n code).length = n := by simp [msbBits]

theorem symbolsOfLength_concat (L : List Nat) (l len : Nat) :
    symbolsOfLength (L ++ [l]) len = symbolsOfLength L len ++ if l = len then [L.length] else [] := by
  rw [symbolsOfLength, List.length_append, List.length_singleton, List.range_succ, List.zip_append (by simp),
    List.filterMap_append, symbolsOfLength]
  by_cases h : l = len <;> simp [h]

/-- A symbol's place among the symbols of its length is the number of those below it (R143, R144). -/
theorem getElem?_symbolsOfLength {L : List Nat} {k len : Nat} (h0 : 0 < len) (hk : L[k]? = some len) :
    (symbolsOfLength L len)[(L.take k).count len]? = some k := by
  induction L using List.reverseRecOn with
  | nil => simp at hk
  | append_singleton L l ih =>
    rw [symbolsOfLength_concat]
    rcases Nat.lt_or_ge k L.length with hlt | hge
    · rw [List.getElem?_append_left hlt] at hk
      have hin := (List.getElem?_eq_some_iff.1 (ih hk)).1
      rw [List.take_append_of_le_length hlt.le, List.getElem?_append_left hin, ih hk]
    · have hlen : k < L.length + 1 := by simpa using (List.getElem?_eq_some_iff.1 hk).1
      obtain rfl : k = L.length := by omega
      obtain rfl : l = len := by simpa using hk
      have hcount : (symbolsOfLength L l).length = L.count l := by
        simp [length_symbolsOfLength L h0, blCount, Nat.ne_of_gt h0]
      simp [← hcount]

/-- The codes of a greater length start past the codes of a smaller one, drawn out with zeros (R142). -/
theorem firstCode_past (L : List Nat) (j d : Nat) :
    (firstCode L j + blCount L j) * 2 ^ (d + 1) ≤ firstCode L (j + d + 1) := by
  induction d with
  | zero => simp [firstCode]
  | succ d ih =>
    rw [show j + (d + 1) + 1 = (j + d + 1) + 1 by omega, firstCode, Nat.pow_succ, ← Nat.mul_assoc]
    exact Nat.mul_le_mul_right 2 (Nat.le_trans ih (Nat.le_add_right _ _))

theorem readBit_cons (b : Bool) (pos : Nat) (rest : List Bool) :
    readBit ⟨pos, b :: rest⟩ = .ok (BitVec.ofBool b) ⟨pos + 1, rest⟩ := by
  have hbits : lsbBits (BitVec.ofBool b) = [b] := by cases b <;> rfl
  have h := readBits_lsbBits (BitVec.ofBool b) pos rest
  rwa [hbits] at h

/-- The walk with `r + 1` bits of the code still ahead: no shorter length answers, the last bit does. -/
theorem huffmanWalk_msbBits {L : List Nat} {m k len : Nat} (hk : L[k]? = some len) (hm : len ≤ m) {code : Nat}
    (hcode : code = firstCode L len + (L.take k).count len) (tail : List Bool) (r : Nat) :
    ∀ {j fuel pos : Nat}, j + (r + 1) = len → j + fuel = m →
      huffmanWalk L m fuel j (code / 2 ^ (r + 1)) ⟨pos, msbBits (r + 1) code ++ tail⟩ = .ok k ⟨pos + (r + 1), tail⟩ := by
  induction r with
  | zero =>
    intro j fuel pos hj hf
    obtain ⟨fuel, rfl⟩ : ∃ f, fuel = f + 1 := ⟨fuel - 1, by omega⟩
    obtain rfl : j + 1 = len := hj
    have hsym := getElem?_symbolsOfLength (Nat.succ_pos j) hk
    have hlt : (L.take k).count (j + 1) < blCount L (j + 1) := by
      rw [← length_symbolsOfLength L (Nat.succ_pos j)]
      exact (List.getElem?_eq_some_iff.1 hsym).1
    have hbit : code / 2 ^ (0 + 1) * 2 + (code.testBit 0).toNat = code := by
      rw [Nat.toNat_testBit]
      omega
    rw [msbBits_succ, huffmanWalk, List.cons_append, readBit_cons]
    simp only [bind_ok, BitVec.toNat_ofBool, hbit]
    rw [if_pos (by omega), hcode, Nat.add_sub_cancel_left, getElem?_symsFrom (Nat.succ_pos j) hm hlt, hsym]
    rfl
  | succ r ih =>
    intro j fuel pos hj hf
    obtain ⟨fuel, rfl⟩ : ∃ f, fuel = f + 1 := ⟨fuel - 1, by omega⟩
    have hbit : code / 2 ^ (r + 1 + 1) * 2 + (code.testBit (r + 1)).toNat = code / 2 ^ (r + 1) := by
      rw [Nat.toNat_testBit, Nat.pow_succ 2 (r + 1), ← Nat.div_div_eq_div_mul]
      omega
    have hpast : firstCode L (j + 1) + blCount L (j + 1) ≤ code / 2 ^ (r + 1) := by
      have h := firstCode_past L (j + 1) r
      rw [show j + 1 + r + 1 = len by omega] at h
      exact (Nat.le_div_iff_mul_le (by positivity)).2 (by omega)
    rw [msbBits_succ, huffmanWalk, List.cons_append, readBit_cons]
    simp only [bind_ok, BitVec.toNat_ofBool, hbit]
    rw [if_neg (by omega), ih (by omega) (by omega)]
    congr 2
    omega

/-- A symbol with a code has a nonzero length, and its code of that length fits it (R141, R143, R146). -/
theorem codeBits_eq_some {L : List Nat} {k : Nat} {bits : List Bool} (h : codeBits L k = some bits) :
    ∃ len code, 0 < len ∧ L[k]? = some len ∧ code = firstCode L len + (L.take k).count len ∧ code < 2 ^ len ∧
      bits = msbBits len code := by
  unfold codeBits codeOf at h
  by_cases h0 : L.getD k 0 = 0
  · simp only [h0, if_true] at h
    cases h
  · simp only [h0, if_false] at h
    split at h
    · rename_i hfit
      have hk : L[k]? = some (L.getD k 0) := by
        rw [List.getD_eq_getElem?_getD] at h0 ⊢
        cases hget : L[k]? with
        | none => simp [hget] at h0
        | some len => rfl
      cases h
      exact ⟨_, _, Nat.pos_of_ne_zero h0, hk, rfl, hfit, rfl⟩
    · cases h

/-- A symbol's code decodes to it, whatever follows (R145). -/
theorem decodeSym_codeBits {L : List Nat} {m k : Nat} {bits : List Bool} (hL : ∀ l ∈ L, l ≤ m)
    (h : codeBits L k = some bits) (pos : Nat) (tail : List Bool) :
    decodeSym L m ⟨pos, bits ++ tail⟩ = .ok k ⟨pos + bits.length, tail⟩ := by
  obtain ⟨len, code, h0, hk, hcode, hfit, rfl⟩ := codeBits_eq_some h
  obtain ⟨r, rfl⟩ : ∃ r, len = r + 1 := ⟨len - 1, by omega⟩
  have hwalk := huffmanWalk_msbBits hk (hL _ (List.mem_of_getElem? hk)) hcode tail r (Nat.zero_add _) (Nat.zero_add m)
    (pos := pos)
  rw [Nat.div_eq_of_lt hfit] at hwalk
  rw [length_msbBits]
  exact hwalk

end Sys2Proof.Machine
end

section
/-! The distance part of a back-reference, encoded and decoded again (R101, R205, R207). -/

namespace Sys2Proof

open Sys2Proof.Machine

theorem codeThen_eq_some {L : List Nat} {k : Nat} {after bits : List Bool} (h : codeThen L k after = some bits) :
    ∃ code, codeBits L k = some code ∧ bits = code ++ after := by
  obtain ⟨code, hcode, rfl⟩ := Option.map_eq_some_iff.1 h
  exact ⟨code, hcode, rfl⟩

theorem take_lsbBits {n m : Nat} (h : n ≤ m) (v : BitVec m) : (lsbBits v).take n = lsbBits (v.setWidth n) := by
  rw [lsbBits, ← List.map_take, List.take_range, Nat.min_eq_left h, lsbBits]
  refine List.map_congr_left fun i hi => ?_
  simp [List.mem_range.1 hi]

theorem distExtraBits_le (d : Nat) : distExtraBits d ≤ 13 := by
  have hall : ∀ n ∈ distExtra, n ≤ 13 := by decide
  rw [distExtraBits, List.getD_eq_getElem?_getD]
  cases h : distExtra[d]? with
  | none => simp
  | some n => exact hall n (List.mem_of_getElem? h)

/-- The distance part with the extra bits past the symbol's width cleared (R101): what an encoding of it holds. -/
def DistPart.trimmed (d : DistPart) : DistPart :=
  ⟨d.sym, (d.extra.setWidth (distExtraBits d.sym.toNat)).setWidth 13⟩

theorem DistPart.trimmed_eq {d : DistPart} (h : d.wellFormed = true) : d.trimmed = d := by
  obtain ⟨sym, extra⟩ := d
  have hfit : extra.toNat < 2 ^ distExtraBits sym.toNat := of_decide_eq_true h
  have hextra : (extra.setWidth (distExtraBits sym.toNat)).setWidth 13 = extra := by
    apply BitVec.eq_of_toNat_eq
    rw [BitVec.toNat_setWidth, BitVec.toNat_setWidth, Nat.mod_eq_of_lt hfit, Nat.mod_eq_of_lt extra.isLt]
  simp only [DistPart.trimmed, hextra]

/-- Extra bits read at their own width fit it (R101). -/
theorem DistPart.wellFormed_setWidth (d : Nat) (e : BitVec (distExtraBits d)) :
    (⟨BitVec.ofNat 5 d, e.setWidth 13⟩ : DistPart).wellFormed = true := by
  refine decide_eq_true ?_
  have he := e.isLt
  rw [BitVec.toNat_setWidth_of_le (distExtraBits_le d), BitVec.toNat_ofNat]
  rcases Nat.lt_or_ge d (2 ^ 5) with hlt | hge
  · rwa [Nat.mod_eq_of_lt hlt]
  · have hnone : distExtraBits d = 0 := by
      rw [distExtraBits, List.getD_eq_default _ _ (Nat.le_trans (by decide) hge)]
    exact Nat.lt_of_lt_of_le he (hnone ▸ Nat.one_le_two_pow)

theorem encodeDist_eq (x : DecodeCtx) (d : DistPart) :
    encodeDist x d = codeThen x.dist d.sym.toNat (lsbBits (d.extra.setWidth (distExtraBits d.sym.toNat))) := by
  rw [encodeDist, take_lsbBits (distExtraBits_le _)]

theorem decodeDist_encodeDist {x : DecodeCtx} (hdist : ∀ l ∈ x.dist, l ≤ Config.maxBits) {d : DistPart}
    {bits : List Bool} (h : encodeDist x d = some bits) (pos : Nat) (tail : List Bool) :
    decodeDist x ⟨pos, bits ++ tail⟩ = .ok d.trimmed ⟨pos + bits.length, tail⟩ := by
  rw [encodeDist_eq] at h
  obtain ⟨code, hcode, rfl⟩ := codeThen_eq_some h
  rw [decodeDist, List.append_assoc, decodeSym_codeBits hdist hcode, bind_ok, readBits_lsbBits, bind_ok]
  simp [DistPart.trimmed, Nat.add_assoc]

/-! ### The rows `DISTnn` as elements of their own (log 13) -/

theorem encode_toInstr (x : DecodeCtx) (pos : Nat) (d : DistPart) : encode x pos d.toInstr = encodeDist x d := by
  obtain ⟨sym, extra⟩ := d
  have hlt := sym.isLt
  rw [encodeDist_eq]
  unfold DistPart.toInstr
  generalize sym.toNat = k at *
  interval_cases k <;> rfl

/-- An element `DISTnn` keeps no bit past its symbol's width. -/
theorem toInstr_trimmed (d : DistPart) : d.trimmed.toInstr = d.toInstr := by
  obtain ⟨sym, extra⟩ := d
  have hlt := sym.isLt
  unfold DistPart.toInstr DistPart.trimmed
  generalize sym.toNat = k at *
  interval_cases k <;> simp [distExtraBits, distExtra]

theorem decodeDistElement_encode {x : DecodeCtx} (hdist : ∀ l ∈ x.dist, l ≤ Config.maxBits) (d : DistPart) {pos : Nat}
    {bits : List Bool} (h : encode x pos d.toInstr = some bits) (tail : List Bool) :
    decodeDistElement x ⟨pos, bits ++ tail⟩ = .ok d.toInstr ⟨pos + bits.length, tail⟩ := by
  rw [encode_toInstr] at h
  rw [decodeDistElement, decodeDist_encodeDist hdist h, bind_ok, toInstr_trimmed]

/-- Settles O50: the rows are `DistPart.toInstr` of the 32 symbols. -/
theorem distanceDecodeEncode : Obligations.DistanceDecodeEncode := by
  intro x pos bits tail e hdist rt
  have row (k : BitVec 5) : rt (DistPart.toInstr ⟨k, e⟩) := fun h => decodeDistElement_encode hdist _ h tail
  exact ⟨row 0, row 1, row 2, row 3, row 4, row 5, row 6, row 7, row 8, row 9, row 10, row 11, row 12, row 13, row 14,
    row 15, row 16, row 17, row 18, row 19, row 20, row 21, row 22, row 23, row 24, row 25, row 26, row 27, row 28,
    row 29, row 30, row 31⟩

end Sys2Proof
end

section
/-! Every element, encoded and decoded again, phase by phase (30_encoding R92 to R101). In each of these proofs
`cases i <;> cases hph` leaves the elements of the phase. -/

namespace Sys2Proof

open Sys2Proof.Machine

/-! ### Aligned reads (R123, R124) -/

theorem discardBits_padBits (pos : Nat) (rest : List Bool) :
    discardBits ⟨pos, padBits pos ++ rest⟩ = ⟨alignUp pos, rest⟩ := by
  simp [discardBits, padBits]

theorem discardBits_of_aligned {pos : Nat} (h : pos % 8 = 0) (rest : List Bool) :
    discardBits ⟨pos, rest⟩ = ⟨pos, rest⟩ := by
  simp [discardBits, alignUp_aligned h]

theorem add_length_padBits_add (pos n : Nat) : pos + ((padBits pos).length + n) = alignUp pos + n := by
  have h := (alignUp_spec pos).1
  simp only [padBits, List.length_replicate]
  omega

/-- The four bytes of a big-endian word, most significant first (R124). -/
theorem bytes_append (v : BitVec 32) :
    v.extractLsb' 24 8 ++ v.extractLsb' 16 8 ++ v.extractLsb' 8 8 ++ v.extractLsb' 0 8 = v := by
  rw [BitVec.extractLsb'_append_extractLsb'_eq_extractLsb' (show 24 = 16 + 8 from rfl),
    BitVec.extractLsb'_append_extractLsb'_eq_extractLsb' (show 16 = 8 + 8 from rfl),
    BitVec.extractLsb'_append_extractLsb'_eq_extractLsb' (show 8 = 0 + 8 from rfl)]
  exact BitVec.extractLsb'_eq_self

/-! ### Block headers (R92) -/

theorem blockHdrBits_eq (final : Bool) (btype : BitVec 2) :
    blockHdrBits final btype = lsbBits (btype ++ BitVec.ofBool final) := by
  revert final btype
  decide

theorem decodeBlockHdr_encode {x : DecodeCtx} {pos : Nat} {i : Instr} {bits : List Bool}
    (hph : i.phase = some .blockHdr) (h : encodeBits x pos i = some bits) (tail : List Bool) :
    decodeBlockHdr ⟨pos, bits ++ tail⟩ = .ok i ⟨pos + bits.length, tail⟩ := by
  cases i <;> cases hph
  all_goals
    rename_i final
    cases h
    rw [blockHdrBits_eq, decodeBlockHdr, readBits_lsbBits, length_lsbBits]
    cases final <;> rfl

/-! ### Code lengths (R184 to R188) -/

theorem decodeCodeLength_encode {x : DecodeCtx} (hcl : ∀ l ∈ x.cl, l ≤ Config.clMaxBits) {pos : Nat} {i : Instr}
    {bits : List Bool} (hph : i.phase = some .dynLens) (h : encodeBits x pos i = some bits) (tail : List Bool) :
    decodeCodeLength x ⟨pos, bits ++ tail⟩ = .ok i ⟨pos + bits.length, tail⟩ := by
  cases i <;> cases hph
  case clRep16 e =>
    obtain ⟨hprev, h⟩ : x.hasPrevious = true ∧ codeThen x.cl 16 (lsbBits e) = some bits := by
      simpa [encodeBits] using h
    obtain ⟨code, hcode, rfl⟩ := codeThen_eq_some h
    rw [decodeCodeLength, List.append_assoc, decodeSym_codeBits hcl hcode]
    simp [hprev, readBits_lsbBits, Nat.add_assoc]
  all_goals
    obtain ⟨code, hcode, rfl⟩ := codeThen_eq_some h
    rw [decodeCodeLength, List.append_assoc, decodeSym_codeBits hcl hcode]
    simp [readBits_lsbBits, Nat.add_assoc]

/-! ### Literals and lengths (R201 to R206) -/

theorem thenDist_eq (x : DecodeCtx) (mk : DistPart → Instr) : thenDist x mk = thenExtraDist x 0 fun _ => mk := by
  funext c
  rw [thenExtraDist, readBits_zero, bind_ok]

theorem decodeSymbol_codeBits {x : DecodeCtx} (hll : ∀ l ∈ x.ll, l ≤ Config.maxBits) {k : Nat} {code : List Bool}
    (hk : 256 ≤ k) (h : codeBits x.ll k = some code) (pos : Nat) (rest : List Bool) :
    decodeSymbol x ⟨pos, code ++ rest⟩ = lengthElement x k ⟨pos + code.length, rest⟩ := by
  rw [decodeSymbol, decodeSym_codeBits hll h, bind_ok, if_neg (Nat.not_lt.2 hk)]

/-- A length symbol with its extra bits and its distance part (R204). -/
theorem decodeSymbol_encodeMatch {x : DecodeCtx} (hll : ∀ l ∈ x.ll, l ≤ Config.maxBits)
    (hdist : ∀ l ∈ x.dist, l ≤ Config.maxBits) {k n : Nat} {mk : BitVec n → DistPart → Instr} {e : BitVec n}
    {d : DistPart} {pos : Nat} {bits : List Bool} (hwf : d.wellFormed = true)
    (h : encodeMatch x k (lsbBits e) d = some bits) (hk : 256 ≤ k) (hmk : lengthElement x k = thenExtraDist x n mk)
    (tail : List Bool) : decodeSymbol x ⟨pos, bits ++ tail⟩ = .ok (mk e d) ⟨pos + bits.length, tail⟩ := by
  obtain ⟨ds, hds, h⟩ := Option.bind_eq_some_iff.1 h
  obtain ⟨code, hcode, rfl⟩ := codeThen_eq_some h
  simp only [List.append_assoc]
  rw [decodeSymbol_codeBits hll hk hcode, hmk, thenExtraDist, readBits_lsbBits, bind_ok, thenDist,
    decodeDist_encodeDist hdist hds, bind_ok, DistPart.trimmed_eq hwf]
  simp [Nat.add_assoc]

theorem decodeSymbol_encode {x : DecodeCtx} (hll : ∀ l ∈ x.ll, l ≤ Config.maxBits)
    (hdist : ∀ l ∈ x.dist, l ≤ Config.maxBits) {pos : Nat} {i : Instr} {bits : List Bool} (hwf : i.wellFormed = true)
    (hph : i.phase = some .symbol) (h : encodeBits x pos i = some bits) (tail : List Bool) :
    decodeSymbol x ⟨pos, bits ++ tail⟩ = .ok i ⟨pos + bits.length, tail⟩ := by
  cases i <;> cases hph
  case lit b =>
    obtain ⟨code, hcode, rfl⟩ := codeThen_eq_some h
    rw [decodeSymbol, List.append_nil, decodeSym_codeBits hll hcode, bind_ok, if_pos b.isLt, BitVec.ofNat_toNat,
      BitVec.setWidth_eq]
  case eob | ll286 | ll287 =>
    obtain ⟨code, hcode, rfl⟩ := codeThen_eq_some h
    rw [List.append_nil, decodeSymbol_codeBits hll (by decide) hcode]
    rfl
  case len257 | len258 | len259 | len260 | len261 | len262 | len263 | len264 | len285 =>
    exact decodeSymbol_encodeMatch (e := (0 : BitVec 0)) hll hdist hwf h (by decide) (thenDist_eq x _) tail
  all_goals exact decodeSymbol_encodeMatch hll hdist hwf h (by decide) rfl tail

/-! ### The elements of all phases -/

/-- Settles O49, phase by phase: the fixed fields are read one after another, each after the bits of the one before; the
coded elements by `decodeSym_codeBits`. -/
theorem decodeEncode : Obligations.DecodeEncode := by
  rintro ⟨p, xlenValid, hasPrevious, cl, ll, dist⟩ pos i bits tail hcl hll hdist hwf hph h
  have haligned := (alignUp_spec pos).2.2
  rw [encode, hph] at h
  simp only [if_true] at h
  cases p
  case blockHdr => exact decodeBlockHdr_encode hph h tail
  case dynLens => exact decodeCodeLength_encode hcl hph h tail
  case symbol => exact decodeSymbol_encode hll hdist hwf hph h tail
  case idle | copy | done | error => cases i <;> cases hph
  case gzipExtra =>
    cases i <;> cases hph
    rename_i part
    cases part <;> cases xlenValid <;> cases h
    all_goals
      simp [decode, u8, u16LE, discardBits_padBits, readBits_lsbBits, add_length_padBits_add]
  case zlibTrailer =>
    cases i <;> cases hph
    cases h
    simp [decode, u32BE, discardBits_padBits, readBits_lsbBits, add_length_padBits_add, bytes_append, Nat.add_assoc]
  case storedCopy | dynHdr | dynCllen =>
    cases i <;> cases hph
    cases h
    simp [decode, readBits_lsbBits, Nat.add_assoc]
  case zlibHdr | gzipHdr | gzipName | gzipComment | gzipHcrc | storedHdr | gzipTrailer =>
    cases i <;> cases hph
    cases h
    simp (disch := omega) [decode, decodeGzipHdr, u8, u16LE, u32LE, discardBits_padBits, discardBits_of_aligned,
      readBits_lsbBits, add_length_padBits_add, Nat.add_assoc]

end Sys2Proof
end

section
/-! What decoding can answer, whatever the bits and the tables (R101, R104, R25). -/

namespace Sys2Proof

open Sys2Proof.Machine

/-- Every value the read can answer has the property. -/
def Yields {α : Type} (P : α → Prop) (r : Read α) : Prop := ∀ a c, r = .ok a c → P a

theorem yields_ok {α : Type} {P : α → Prop} {a : α} (h : P a) (c : Cursor) : Yields P (.ok a c) := by
  rintro _ _ ⟨⟩
  exact h

theorem yields_reject {α : Type} {P : α → Prop} (e : Reject) : Yields P (.reject e) := nofun

theorem Yields.bind {α β : Type} {Q : α → Prop} {P : β → Prop} {r : Read α} {f : α → Cursor → Read β} (hr : Yields Q r)
    (hf : ∀ a c, Q a → Yields P (f a c)) : Yields P (r.bind f) := by
  intro b c h
  obtain ⟨a, c', ha, h⟩ := bind_eq_ok h
  exact hf a c' (hr a c' ha) b c h

theorem yields_bind {α β : Type} {P : β → Prop} {r : Read α} {f : α → Cursor → Read β} (hf : ∀ a c, Yields P (f a c)) :
    Yields P (r.bind f) :=
  Yields.bind (Q := fun _ => True) (fun _ _ _ => trivial) fun a c _ => hf a c

/-- A well-formed element of the phase (R104). -/
def Belongs (p : Phase) (i : Instr) : Prop := i.wellFormed = true ∧ i.phase = some p

theorem decodeDist_yields (x : DecodeCtx) (c : Cursor) : Yields (fun d => d.wellFormed = true) (decodeDist x c) :=
  yields_bind fun d _ => yields_bind fun e c =>
    yields_ok (P := fun d : DistPart => d.wellFormed = true) (DistPart.wellFormed_setWidth d e) c

theorem thenExtraDist_yields {n : Nat} {mk : BitVec n → DistPart → Instr}
    (hwf : ∀ e d, (mk e d).wellFormed = d.wellFormed) (hph : ∀ e d, (mk e d).phase = some .symbol) (x : DecodeCtx)
    (c : Cursor) : Yields (Belongs .symbol) (thenExtraDist x n mk c) :=
  yields_bind fun e c => (decodeDist_yields x c).bind fun d c hd => yields_ok ⟨(hwf e d).trans hd, hph e d⟩ c

theorem thenDist_yields {mk : DistPart → Instr} (hwf : ∀ d, (mk d).wellFormed = d.wellFormed)
    (hph : ∀ d, (mk d).phase = some .symbol) (x : DecodeCtx) (c : Cursor) :
    Yields (Belongs .symbol) (thenDist x mk c) :=
  thenDist_eq x mk ▸ thenExtraDist_yields (fun _ => hwf) (fun _ => hph) x c

/-- In the order of the symbols: end of block, 8 lengths without extra bits, 20 with, the longest length, the two symbols
without a meaning, and nothing above (R100, R206). -/
theorem lengthElement_yields (x : DecodeCtx) (k : Nat) (c : Cursor) : Yields (Belongs .symbol) (lengthElement x k c) := by
  unfold lengthElement
  split
  · exact yields_ok ⟨rfl, rfl⟩ c
  iterate 8 exact thenDist_yields (fun _ => rfl) (fun _ => rfl) x c
  iterate 20 exact thenExtraDist_yields (fun _ _ => rfl) (fun _ _ => rfl) x c
  · exact thenDist_yields (fun _ => rfl) (fun _ => rfl) x c
  iterate 2 exact yields_ok ⟨rfl, rfl⟩ c
  · exact yields_reject _

theorem decodeSymbol_yields (x : DecodeCtx) (c : Cursor) : Yields (Belongs .symbol) (decodeSymbol x c) := by
  refine yields_bind fun k c => ?_
  split
  · exact yields_ok ⟨rfl, rfl⟩ c
  · exact lengthElement_yields x k c

/-- In the order of the symbols: 16 lengths, then the three repeats with their extra bits (R184 to R188). -/
theorem decodeCodeLength_yields (x : DecodeCtx) (c : Cursor) : Yields (Belongs .dynLens) (decodeCodeLength x c) := by
  refine yields_bind fun k c => ?_
  split
  iterate 16 exact yields_ok ⟨rfl, rfl⟩ c
  · split
    · exact yields_bind fun _ c => yields_ok ⟨rfl, rfl⟩ c
    · exact yields_ok ⟨rfl, rfl⟩ c
  iterate 2 exact yields_bind fun _ c => yields_ok ⟨rfl, rfl⟩ c
  · exact yields_reject _

theorem decodeBlockHdr_yields (c : Cursor) : Yields (Belongs .blockHdr) (decodeBlockHdr c) := by
  refine yields_bind fun v c => ?_
  split <;> exact yields_ok ⟨rfl, rfl⟩ c

theorem decodeGzipHdr_yields (c : Cursor) : Yields (Belongs .gzipHdr) (decodeGzipHdr c) :=
  yields_bind fun _ _ => yields_bind fun _ _ => yields_bind fun _ _ => yields_bind fun _ _ => yields_bind fun _ _ =>
    yields_bind fun _ _ => yields_bind fun _ c => yields_ok ⟨rfl, rfl⟩ c

theorem decode_yields (x : DecodeCtx) (c : Cursor) : Yields (Belongs x.phase) (decode x c) := by
  obtain ⟨p, xlenValid, hasPrevious, cl, ll, dist⟩ := x
  cases p
  case idle | copy | done | error => exact yields_reject _
  case gzipHdr => exact decodeGzipHdr_yields c
  case blockHdr => exact decodeBlockHdr_yields c
  case dynLens => exact decodeCodeLength_yields _ c
  case symbol => exact decodeSymbol_yields _ c
  case gzipExtra => cases xlenValid <;> exact yields_bind fun _ c => yields_ok ⟨rfl, rfl⟩ c
  case gzipName | gzipComment | gzipHcrc | storedCopy | dynCllen | zlibTrailer =>
    exact yields_bind fun _ c => yields_ok ⟨rfl, rfl⟩ c
  case zlibHdr | storedHdr | gzipTrailer => exact yields_bind fun _ _ => yields_bind fun _ c => yields_ok ⟨rfl, rfl⟩ c
  case dynHdr => exact yields_bind fun _ _ => yields_bind fun _ _ => yields_bind fun _ c => yields_ok ⟨rfl, rfl⟩ c

/-- Settles O51, phase by phase. -/
theorem decodeWellFormed : Obligations.DecodeWellFormed := fun x c c' i h => decode_yields x c i c' h

end Sys2Proof
end

section
/-! The codes of a fixed block (R103), and words read from the spec's encodings. -/

namespace Sys2Proof

open Sys2Proof.Machine

theorem lengthsOf_vecOf {w : Nat} (n : Nat) (f : Nat → BitVec w) :
    lengthsOf (vecOf n f) = (List.range n).map fun k => (f k).toNat := by
  simp [lengthsOf, vecOf, Vector.toList]

theorem fixedLlLen_toNat (k : Nat) :
    (fixedLlLen k).toNat = if k ≤ 143 then 8 else if k ≤ 255 then 9 else if k ≤ 279 then 7 else 8 := by
  unfold fixedLlLen
  split_ifs <;> bv_omega

/-- The lengths of a fixed block's literal/length alphabet, in their four ranges (R103). -/
theorem lengthsOf_fixedLlLen : lengthsOf (vecOf 288 fixedLlLen) =
    List.replicate 144 8 ++ (List.replicate 112 9 ++ (List.replicate 24 7 ++ List.replicate 8 8)) := by
  rw [lengthsOf_vecOf]
  refine List.ext_getElem (by simp only [List.length_map, List.length_range, List.length_append, List.length_replicate])
    fun k _ _ => ?_
  simp only [List.getElem_map, List.getElem_range, List.getElem_append, List.getElem_replicate, List.length_replicate,
    fixedLlLen_toNat]
  split_ifs <;> omega

theorem lengthsOf_fixedDLen : lengthsOf (vecOf 32 fixedDLen) = List.replicate 32 5 := by
  rw [lengthsOf_vecOf]
  exact List.ext_getElem rfl fun k _ _ => by simp only [List.getElem_map, List.getElem_replicate]; rfl

/-- The first code of each length of the fixed tables (R142). -/
theorem firstCode_fixedLlLen : firstCode (lengthsOf (vecOf 288 fixedLlLen)) 7 = 0 ∧
    firstCode (lengthsOf (vecOf 288 fixedLlLen)) 8 = 0x30 ∧ firstCode (lengthsOf (vecOf 288 fixedLlLen)) 9 = 0x190 := by
  rw [lengthsOf_fixedLlLen]
  simp only [firstCode, blCount, List.count_append, List.count_replicate]
  decide

theorem firstCode_fixedDLen : firstCode (lengthsOf (vecOf 32 fixedDLen)) 5 = 0 := by
  rw [lengthsOf_fixedDLen]
  simp [firstCode, blCount]

/-- How many symbols below `k` have a length, range by range. -/
theorem count_take_fixedLlLen (k len : Nat) : ((lengthsOf (vecOf 288 fixedLlLen)).take k).count len =
    (if len = 8 then min k 144 + min (k - 280) 8 else 0) + (if len = 9 then min (k - 144) 112 else 0) +
      if len = 7 then min (k - 256) 24 else 0 := by
  rw [lengthsOf_fixedLlLen]
  simp only [List.take_append, List.take_replicate, List.count_append, List.count_replicate, List.length_replicate,
    beq_iff_eq]
  split_ifs <;> omega

theorem codeOf_lengthsOf_vecOf {w n k len : Nat} {f : Nat → BitVec w} (hk : k < n) (hlen : (f k).toNat = len)
    (h0 : len ≠ 0) : codeOf (lengthsOf (vecOf n f)) k =
      some (len, firstCode (lengthsOf (vecOf n f)) len + ((lengthsOf (vecOf n f)).take k).count len) := by
  have hget : (lengthsOf (vecOf n f)).getD k 0 = len := by simp [lengthsOf_vecOf, hk, hlen]
  rw [codeOf, hget]
  exact if_neg h0

theorem codeOf_fixedLlLen {k : Nat} (hk : k < 288) : codeOf (lengthsOf (vecOf 288 fixedLlLen)) k =
    if k ≤ 143 then some (8, 0x30 + k) else if k ≤ 255 then some (9, 0x190 + (k - 144))
    else if k ≤ 279 then some (7, k - 256) else some (8, 0xC0 + (k - 280)) := by
  obtain ⟨f7, f8, f9⟩ := firstCode_fixedLlLen
  have hlen := fixedLlLen_toNat k
  split_ifs at hlen ⊢
  all_goals
    rw [codeOf_lengthsOf_vecOf hk hlen (by decide), count_take_fixedLlLen]
    simp only [f7, f8, f9, Option.some.injEq, Prod.mk.injEq, true_and, reduceIte, Nat.reduceEqDiff]
    omega

theorem codeOf_fixedDLen {d : Nat} (hd : d < 32) : codeOf (lengthsOf (vecOf 32 fixedDLen)) d = some (5, d) := by
  rw [codeOf_lengthsOf_vecOf hd (len := 5) rfl (by decide), firstCode_fixedDLen, lengthsOf_fixedDLen, List.take_replicate,
    List.count_replicate_self, Nat.min_eq_left hd.le, Nat.zero_add]

/-- Settles O53. -/
theorem fixedCodes : Obligations.FixedCodes :=
  ⟨fun k hk => ⟨fixedLlLen_toNat k, codeOf_fixedLlLen hk⟩, fun _ hd => ⟨rfl, codeOf_fixedDLen hd⟩⟩

/-! ### Words -/

theorem le_of_mem_lengthsOf {n w : Nat} {v : Vector (BitVec w) n} {l : Nat} (h : l ∈ lengthsOf v) : l ≤ 2 ^ w - 1 := by
  obtain ⟨b, -, rfl⟩ := List.mem_map.1 h
  have := b.isLt
  omega

/-- The context of a phase with the tables of a fixed block. -/
def fixedBlockCtx (p : Phase) : DecodeCtx :=
  ⟨p, false, false, [], lengthsOf (vecOf 288 fixedLlLen), lengthsOf (vecOf 32 fixedDLen)⟩

/-- With the tables of a fixed block, what encodes an element decodes to it. -/
theorem decode_fixedBlockCtx {p : Phase} {pos : Nat} {i : Instr} {bits : List Bool} (hwf : i.wellFormed = true)
    (hph : i.phase = some p) (h : encode (fixedBlockCtx p) pos i = some bits) :
    decode (fixedBlockCtx p) ⟨pos, bits⟩ = .ok i ⟨pos + bits.length, []⟩ := by
  have hround := decodeEncode (fixedBlockCtx p) pos i bits [] (by simp [fixedBlockCtx])
    (fun _ => le_of_mem_lengthsOf) (fun _ => le_of_mem_lengthsOf) hwf hph h
  rwa [List.append_nil] at hround

theorem codeBits_of_codeOf {L : List Nat} {k len code : Nat} (h : codeOf L k = some (len, code)) (hfit : code < 2 ^ len) :
    codeBits L k = some (msbBits len code) := by
  simp [codeBits, h, hfit]

theorem encode_lit {x : DecodeCtx} (hx : x.phase = .symbol) (pos : Nat) (b : Byte) :
    encode x pos (.lit b) = codeBits x.ll b.toNat := by
  simp [encode, encodeBits, codeThen, Instr.phase, hx]

theorem encode_eob {x : DecodeCtx} (hx : x.phase = .symbol) (pos : Nat) : encode x pos .eob = codeBits x.ll 256 := by
  simp [encode, encodeBits, codeThen, Instr.phase, hx]

/-- Settles O60: each word is the encoding of its element. -/
theorem decodedWords : Obligations.DecodedWords := by
  have lit : codeBits (lengthsOf (vecOf 288 fixedLlLen)) 0x61 = some (msbBits 8 0x91) :=
    codeBits_of_codeOf (codeOf_fixedLlLen (by decide)) (by decide)
  have eob : codeBits (lengthsOf (vecOf 288 fixedLlLen)) 256 = some (msbBits 7 0) :=
    codeBits_of_codeOf (codeOf_fixedLlLen (by decide)) (by decide)
  refine ⟨decode_fixedBlockCtx rfl rfl rfl, decode_fixedBlockCtx rfl rfl rfl, decode_fixedBlockCtx rfl rfl rfl,
    decode_fixedBlockCtx rfl rfl rfl, decode_fixedBlockCtx rfl rfl ?_, decode_fixedBlockCtx rfl rfl ?_⟩
  · rw [encode_lit rfl]
    exact lit
  · rw [encode_eob rfl]
    exact eob

end Sys2Proof
end

section
/-! Reading on a longer input (R121, R126): unless the bits at hand are short, bits delivered later change nothing. -/

namespace Sys2Proof.Machine

/-- The same place in the input, more bits having been delivered behind it. -/
def Cursor.withLater (later : List Bool) (c : Cursor) : Cursor := ⟨c.pos, c.rest ++ later⟩

/-- The same answer, with the bits delivered later still unread. -/
def Read.withLater {α : Type} (later : List Bool) : Read α → Read α
  | .ok a c => .ok a (c.withLater later)
  | .reject e => .reject e

/-- `r'`, the read on the longer input, answers as `r` does on the shorter one, unless that is short. -/
def Settled {α : Type} (later : List Bool) (r r' : Read α) : Prop := r ≠ .reject .short → r' = r.withLater later

theorem settled_ok {α : Type} (later : List Bool) (a : α) (c : Cursor) :
    Settled later (.ok a c) (.ok a (c.withLater later)) := fun _ => rfl

theorem settled_reject {α : Type} (later : List Bool) (e : Reject) : Settled (α := α) later (.reject e) (.reject e) :=
  fun _ => rfl

theorem settled_short {α : Type} (later : List Bool) (r' : Read α) : Settled later (.reject .short) r' :=
  fun h => absurd rfl h

/-- Reads in sequence are settled when each is. -/
theorem Settled.bind {α β : Type} {later : List Bool} {r r' : Read α} {f : α → Cursor → Read β}
    (hr : Settled later r r') (hf : ∀ a c, Settled later (f a c) (f a (c.withLater later))) :
    Settled later (r.bind f) (r'.bind f) := by
  intro h
  cases r with
  | ok a c =>
    rw [hr nofun]
    exact hf a c h
  | reject e =>
    rw [hr fun he => h (by cases he; rfl)]
    rfl

/-! ### The bit reader -/

theorem readBits_settled (later : List Bool) (n : Nat) (c : Cursor) :
    Settled later (readBits n c) (readBits n (c.withLater later)) := by
  rcases readBits_cases n c with ⟨hn, e⟩ | ⟨-, e⟩ <;> rw [e]
  · have hn' : n ≤ (c.rest ++ later).length := by
      rw [List.length_append]
      omega
    rw [readBits, Cursor.withLater, if_pos hn', List.take_append_of_le_length hn, List.drop_append_of_le_length hn]
    exact settled_ok later _ _
  · exact settled_short later _

/-- An aligned read (R124) of at least one bit: where the pad bits themselves are missing, it is short. -/
theorem readAligned_settled (later : List Bool) {n : Nat} (hn : 0 < n) (c : Cursor) :
    Settled later (readBits n (discardBits c)) (readBits n (discardBits (c.withLater later))) := by
  rcases Nat.lt_or_ge c.rest.length (alignUp c.pos - c.pos) with hlt | hle
  · rcases readBits_cases n (discardBits c) with ⟨hk, -⟩ | ⟨-, e⟩
    · simp only [discardBits, List.length_drop] at hk
      omega
    · rw [e]
      exact settled_short later _
  · have halign : discardBits (c.withLater later) = (discardBits c).withLater later := by
      simp only [discardBits, Cursor.withLater, List.drop_append_of_le_length hle]
    rw [halign]
    exact readBits_settled later n _

theorem u8_settled (later : List Bool) (c : Cursor) : Settled later (u8 c) (u8 (c.withLater later)) :=
  readAligned_settled later (by decide) c

theorem u16LE_settled (later : List Bool) (c : Cursor) : Settled later (u16LE c) (u16LE (c.withLater later)) :=
  readAligned_settled later (by decide) c

theorem u32LE_settled (later : List Bool) (c : Cursor) : Settled later (u32LE c) (u32LE (c.withLater later)) :=
  readAligned_settled later (by decide) c

theorem u32BE_settled (later : List Bool) (c : Cursor) : Settled later (u32BE c) (u32BE (c.withLater later)) :=
  (readAligned_settled later (by decide) c).bind fun _ c => (readBits_settled later 8 c).bind fun _ c =>
    (readBits_settled later 8 c).bind fun _ c => (readBits_settled later 8 c).bind fun _ c => settled_ok later _ c

/-! ### Elements -/

/-- The walk of a code (R145) takes bits one at a time, and its tests look at the bits taken only. -/
theorem huffmanWalk_settled (later : List Bool) (L : List Nat) (m fuel len code : Nat) (c : Cursor) :
    Settled later (huffmanWalk L m fuel len code c) (huffmanWalk L m fuel len code (c.withLater later)) := by
  induction fuel generalizing len code c with
  | zero => exact settled_reject later _
  | succ fuel ih =>
    refine (readBits_settled later 1 c).bind fun b c => ?_
    dsimp only
    split
    · split
      · exact settled_ok later _ c
      · exact settled_reject later _
    · exact ih _ _ c

theorem decodeSym_settled (later : List Bool) (L : List Nat) (m : Nat) (c : Cursor) :
    Settled later (decodeSym L m c) (decodeSym L m (c.withLater later)) := huffmanWalk_settled later L m m 0 0 c

theorem decodeDist_settled (later : List Bool) (x : DecodeCtx) (c : Cursor) :
    Settled later (decodeDist x c) (decodeDist x (c.withLater later)) :=
  (decodeSym_settled later _ _ c).bind fun _ c => (readBits_settled later _ c).bind fun _ c => settled_ok later _ c

theorem thenDist_settled (later : List Bool) (x : DecodeCtx) (mk : DistPart → Instr) (c : Cursor) :
    Settled later (thenDist x mk c) (thenDist x mk (c.withLater later)) :=
  (decodeDist_settled later x c).bind fun _ c => settled_ok later _ c

theorem thenExtraDist_settled (later : List Bool) (x : DecodeCtx) {n : Nat} (mk : BitVec n → DistPart → Instr)
    (c : Cursor) : Settled later (thenExtraDist x n mk c) (thenExtraDist x n mk (c.withLater later)) :=
  (readBits_settled later n c).bind fun e c => thenDist_settled later x (mk e) c

/-- In the order of the symbols: end of block, 8 lengths without extra bits, 20 with, the longest length, the two symbols
without a meaning, and nothing above (R100, R206). -/
theorem lengthElement_settled (later : List Bool) (x : DecodeCtx) (k : Nat) (c : Cursor) :
    Settled later (lengthElement x k c) (lengthElement x k (c.withLater later)) := by
  unfold lengthElement
  split
  · exact settled_ok later _ c
  iterate 8 exact thenDist_settled later x _ c
  iterate 20 exact thenExtraDist_settled later x _ c
  · exact thenDist_settled later x _ c
  iterate 2 exact settled_ok later _ c
  · exact settled_reject later _

theorem decodeSymbol_settled (later : List Bool) (x : DecodeCtx) (c : Cursor) :
    Settled later (decodeSymbol x c) (decodeSymbol x (c.withLater later)) := by
  refine (decodeSym_settled later _ _ c).bind fun k c => ?_
  split
  · exact settled_ok later _ c
  · exact lengthElement_settled later x k c

/-- In the order of the symbols: 16 lengths, then the three repeats with their extra bits (R184 to R188). -/
theorem decodeCodeLength_settled (later : List Bool) (x : DecodeCtx) (c : Cursor) :
    Settled later (decodeCodeLength x c) (decodeCodeLength x (c.withLater later)) := by
  refine (decodeSym_settled later _ _ c).bind fun k c => ?_
  split
  iterate 16 exact settled_ok later _ c
  · split
    · exact (readBits_settled later 2 c).bind fun _ c => settled_ok later _ c
    · exact settled_ok later _ c
  · exact (readBits_settled later 3 c).bind fun _ c => settled_ok later _ c
  · exact (readBits_settled later 7 c).bind fun _ c => settled_ok later _ c
  · exact settled_reject later _

theorem decodeBlockHdr_settled (later : List Bool) (c : Cursor) :
    Settled later (decodeBlockHdr c) (decodeBlockHdr (c.withLater later)) := by
  refine (readBits_settled later 3 c).bind fun v c => ?_
  split <;> exact settled_ok later _ c

theorem decodeGzipHdr_settled (later : List Bool) (c : Cursor) :
    Settled later (decodeGzipHdr c) (decodeGzipHdr (c.withLater later)) :=
  (u8_settled later c).bind fun _ c => (u8_settled later c).bind fun _ c => (u8_settled later c).bind fun _ c =>
    (u8_settled later c).bind fun _ c => (u32LE_settled later c).bind fun _ c => (u8_settled later c).bind fun _ c =>
      (u8_settled later c).bind fun _ c => settled_ok later _ c

/-- Two cursors at one place decode to one element, unless the bits of the first are short. -/
theorem decode_settled (later : List Bool) (x : DecodeCtx) (c : Cursor) :
    Settled later (decode x c) (decode x (c.withLater later)) := by
  obtain ⟨p, xlenValid, hasPrevious, cl, ll, dist⟩ := x
  cases p
  case idle | copy | done | error => exact settled_reject later _
  case gzipHdr => exact decodeGzipHdr_settled later c
  case blockHdr => exact decodeBlockHdr_settled later c
  case dynLens => exact decodeCodeLength_settled later _ c
  case symbol => exact decodeSymbol_settled later _ c
  case zlibHdr => exact (u8_settled later c).bind fun _ c => (u8_settled later c).bind fun _ c => settled_ok later _ c
  case gzipExtra =>
    cases xlenValid
    · exact (u16LE_settled later c).bind fun _ c => settled_ok later _ c
    · exact (u8_settled later c).bind fun _ c => settled_ok later _ c
  case gzipName | gzipComment => exact (u8_settled later c).bind fun _ c => settled_ok later _ c
  case gzipHcrc => exact (u16LE_settled later c).bind fun _ c => settled_ok later _ c
  case storedHdr =>
    have aligned : Settled later (u16LE (discardBits c)) (u16LE (discardBits (c.withLater later))) := by
      simp only [u16LE, discardBits_discardBits]
      exact u16LE_settled later c
    exact aligned.bind fun _ c => (u16LE_settled later c).bind fun _ c => settled_ok later _ c
  case storedCopy => exact (readBits_settled later 8 c).bind fun _ c => settled_ok later _ c
  case dynHdr =>
    exact (readBits_settled later 5 c).bind fun _ c => (readBits_settled later 5 c).bind fun _ c =>
      (readBits_settled later 4 c).bind fun _ c => settled_ok later _ c
  case dynCllen => exact (readBits_settled later 3 c).bind fun _ c => settled_ok later _ c
  case zlibTrailer => exact (u32BE_settled later c).bind fun _ c => settled_ok later _ c
  case gzipTrailer =>
    exact (u32LE_settled later c).bind fun _ c => (u32LE_settled later c).bind fun _ c => settled_ok later _ c

/-! ### Fetching -/

/-- The same state, more bytes having been delivered. -/
def State.withLater (bs : List Byte) (s : State) : State := { s with input := s.input ++ bs }

theorem cursor_withLater {s : State} (h : CursorBounded s) (bs : List Byte) :
    cursor (s.withLater bs) = (cursor s).withLater (bitsOfBytes bs) := by
  have hpc : s.pc ≤ (bitsOfBytes s.input).length := by
    rw [length_bitsOfBytes]
    exact h
  simp only [cursor, State.withLater, Cursor.withLater, bitsOfBytes_append, List.drop_append_of_le_length hpc]

theorem fetch_settled {s : State} (h : CursorBounded s) (bs : List Byte) :
    Settled (bitsOfBytes bs) (fetch s) (fetch (s.withLater bs)) := by
  rw [fetch, fetch, cursor_withLater h bs]
  exact decode_settled (bitsOfBytes bs) (decodeCtx s) (cursor s)

end Sys2Proof.Machine
end

section
/-! No meaning of an element looks at the input (R9), and what a firing of the core does with its fetch (R121, R126). -/

namespace Sys2Proof.Machine

/-- The same firing, more bytes having been delivered. -/
def Firing.withLater (bs : List Byte) : Firing → Firing
  | .done s => .done (s.withLater bs)
  | .hold => .hold
  | .raise e => .raise e
  | .stop f => .stop f

/-- A rule that looks at no delivered byte. -/
def InputBlind (r : Rule) : Prop := ∀ bs s, r (s.withLater bs) = (r s).withLater bs

theorem commit_withLater {r : Rule} (h : InputBlind r) (bs : List Byte) (s : State) :
    commit r (s.withLater bs) = withLaterBytes bs (commit r s) := by
  unfold commit
  rw [h bs s]
  cases r s <;> rfl

theorem inputBlind_raise (e : ErrSub) : InputBlind fun _ => .raise e := fun _ _ => rfl

/-- A test that does not look at the delivered bytes, and blind rules on both sides. -/
theorem InputBlind.ite {p : State → Prop} [DecidablePred p] {r₁ r₂ : Rule} (hp : ∀ bs s, p (s.withLater bs) = p s)
    (h₁ : InputBlind r₁) (h₂ : InputBlind r₂) : InputBlind fun s => if p s then r₁ s else r₂ s := by
  intro bs s
  dsimp only
  by_cases h : p s
  · rw [if_pos h, if_pos ((hp bs s).mpr h), h₁]
  · rw [if_neg h, if_neg ((hp bs s).mp.mt h), h₂]

/-- A fault, raised on a test that does not look at the delivered bytes, before a blind rule. -/
theorem InputBlind.guard {p : State → Prop} [DecidablePred p] {e : ErrSub} {r : Rule}
    (hp : ∀ bs s, p (s.withLater bs) = p s) (h : InputBlind r) : InputBlind fun s => if p s then .raise e else r s :=
  .ite hp (inputBlind_raise e) h

/-- A test that does not look at the delivered bytes chooses between two next states. -/
theorem InputBlind.done_ite {p : State → Prop} [DecidablePred p] {f g : State → State}
    (hp : ∀ bs s, p (s.withLater bs) = p s) (hf : InputBlind fun s => .done (f s)) (hg : InputBlind fun s => .done (g s)) :
    InputBlind fun s => .done (if p s then f s else g s) := by
  simpa only [apply_ite Firing.done] using InputBlind.ite hp hf hg

theorem emit_inputBlind (b : Byte) : InputBlind (emit b) :=
  .ite (fun _ _ => rfl) (fun _ _ => rfl) fun _ _ => rfl

/-- `Emit` (R161) and then a blind rule. -/
theorem InputBlind.emit_andThen (b : Byte) {r : Rule} (h : InputBlind r) : InputBlind fun s => (emit b s).andThen r := by
  intro bs s
  dsimp only
  rw [emit_inputBlind b bs s]
  cases emit b s with
  | done t => exact h bs t
  | hold | raise | stop => rfl

theorem appendLengths_inputBlind (v : BitVec 4) (n : Nat) : InputBlind (appendLengths v n) :=
  .guard (fun _ _ => rfl) (.ite (fun _ _ => rfl) (fun _ _ => rfl) fun _ _ => rfl)

theorem codedLength_inputBlind (sym ex : Nat) (v : BitVec 4) (n : Nat) : InputBlind (codedLength sym ex v n) :=
  fun bs s => appendLengths_inputBlind v n bs (advance (clBits sym s + ex) s)

theorem distanceRule_inputBlind (d ex dist : Nat) : InputBlind (distanceRule d ex dist) := fun _ _ => rfl

/-- In the order of the symbols: 30 distances, then the two without a meaning (R101, R207). -/
theorem runDist_inputBlind (d : DistPart) : InputBlind (runDist d) := by
  unfold runDist
  split
  iterate 30 exact distanceRule_inputBlind _ _ _
  iterate 2 exact inputBlind_raise _

theorem lengthRule_inputBlind (c ex len : Nat) (d : DistPart) : InputBlind (lengthRule c ex len d) :=
  fun bs s => runDist_inputBlind d bs { advance (llBits c s + ex) s with mlen := BitVec.ofNat 9 len }

/-- The last line of `GZIP_EXTRA` (R318). -/
theorem extraStep_inputBlind : InputBlind fun s => .done (extraStep s) :=
  .done_ite (fun _ _ => rfl) (fun _ _ => rfl) fun _ _ => rfl

theorem execCopy_withLater (bs : List Byte) (s : State) :
    execCopy (s.withLater bs) = withLaterBytes bs (execCopy s) := by
  refine commit_withLater (.guard (fun _ _ => rfl) fun bs s => ?_) bs s
  have hcell : (s.withLater bs).win.read (copyAddr (s.withLater bs)) = s.win.read (copyAddr s) := rfl
  rw [hcell]
  cases s.win.read (copyAddr s) with
  | none => rfl
  | some b => exact InputBlind.emit_andThen b (fun _ _ => rfl) bs s

theorem execZlibHdr_withLater (cmf flg : Byte) (bs : List Byte) (s : State) :
    execZlibHdr cmf flg (s.withLater bs) = withLaterBytes bs (execZlibHdr cmf flg s) :=
  commit_withLater (.guard (fun _ _ => rfl) <| .guard (fun _ _ => rfl) <| .guard (fun _ _ => rfl) <|
    .guard (fun _ _ => rfl) fun _ _ => rfl) bs s

theorem execZlibTrailer_withLater (v : BitVec 32) (bs : List Byte) (s : State) :
    execZlibTrailer v (s.withLater bs) = withLaterBytes bs (execZlibTrailer v s) :=
  commit_withLater (.guard (fun _ _ => rfl) fun _ _ => rfl) bs s

theorem execGzipHdr_withLater (id1 id2 cm flg xfl os : Byte) (mtime : BitVec 32) (bs : List Byte) (s : State) :
    execGzipHdr id1 id2 cm flg mtime xfl os (s.withLater bs) =
      withLaterBytes bs (execGzipHdr id1 id2 cm flg mtime xfl os s) :=
  commit_withLater (.guard (fun _ _ => rfl) <| .guard (fun _ _ => rfl) fun _ _ => rfl) bs s

theorem execGzipExtra_withLater (part : ExtraPart) (bs : List Byte) (s : State) :
    execGzipExtra part (s.withLater bs) = withLaterBytes bs (execGzipExtra part s) := by
  refine commit_withLater (fun bs s => ?_) bs s
  cases part with
  | lengthField n => exact extraStep_inputBlind bs { advanceAligned 16 s with xlen := n, xlenValid := true }
  | payload b => exact extraStep_inputBlind bs { advanceAligned 8 s with xlen := s.xlen - 1 }

theorem execGzipTrailer_withLater (crc n : BitVec 32) (bs : List Byte) (s : State) :
    execGzipTrailer crc n (s.withLater bs) = withLaterBytes bs (execGzipTrailer crc n s) :=
  commit_withLater (.guard (fun _ _ => rfl) <| .guard (fun _ _ => rfl) fun _ _ => rfl) bs s

theorem execStoredHdr_withLater (len nlen : BitVec 16) (bs : List Byte) (s : State) :
    execStoredHdr len nlen (s.withLater bs) = withLaterBytes bs (execStoredHdr len nlen s) :=
  commit_withLater (.guard (fun _ _ => rfl) fun _ _ => rfl) bs s

theorem execStoredByte_withLater (b : Byte) (bs : List Byte) (s : State) :
    execStoredByte b (s.withLater bs) = withLaterBytes bs (execStoredByte b s) :=
  commit_withLater (fun bs s => InputBlind.emit_andThen b (fun _ _ => rfl) bs (advance 8 s)) bs s

theorem execDynCllen_withLater (v : BitVec 3) (bs : List Byte) (s : State) :
    execDynCllen v (s.withLater bs) = withLaterBytes bs (execDynCllen v s) := by
  refine commit_withLater ?_ bs s
  exact .done_ite (fun _ _ => rfl) (fun _ _ => rfl) fun _ _ => rfl

theorem execClRep16_withLater (e : BitVec 2) (bs : List Byte) (s : State) :
    execClRep16 e (s.withLater bs) = withLaterBytes bs (execClRep16 e s) :=
  commit_withLater (.guard (fun _ _ => rfl) fun bs s =>
    codedLength_inputBlind 16 2 (entry s.lens (s.lidx.toNat - 1)) (3 + e.toNat) bs s) bs s

theorem execLit_withLater (b : Byte) (bs : List Byte) (s : State) :
    execLit b (s.withLater bs) = withLaterBytes bs (execLit b s) :=
  commit_withLater (fun bs s => emit_inputBlind b bs (advance (llBits b.toNat s) s)) bs s

/-- No element's meaning depends on the bytes delivered behind it (R9). After the elements of their own shape come, in the
order of the table, the code lengths, the back-references and the distances. -/
theorem exec_withLater (i : Instr) (bs : List Byte) (s : State) :
    exec i (s.withLater bs) = withLaterBytes bs (exec i s) := by
  cases i
  case zlibHdr => exact execZlibHdr_withLater _ _ bs s
  case zlibTrailer => exact execZlibTrailer_withLater _ bs s
  case gzipHdr id1 id2 cm flg mtime xfl os => exact execGzipHdr_withLater id1 id2 cm flg xfl os mtime bs s
  case gzipExtra => exact execGzipExtra_withLater _ bs s
  case gzipTrailer => exact execGzipTrailer_withLater _ _ bs s
  case storedHdr => exact execStoredHdr_withLater _ _ bs s
  case storedByte => exact execStoredByte_withLater _ bs s
  case dynCllen => exact execDynCllen_withLater _ bs s
  case clRep16 => exact execClRep16_withLater _ bs s
  case lit => exact execLit_withLater _ bs s
  case gzipName | gzipComment | gzipHcrc | blkStored | blkFixed | blkDynamic | blkReserved | dynHdr | eob | ll286 |
      ll287 | dist30 | dist31 => rfl
  iterate 18 exact commit_withLater (codedLength_inputBlind _ _ _ _) bs s
  iterate 29 exact commit_withLater (lengthRule_inputBlind _ _ _ _) bs s
  iterate 30 exact commit_withLater (distanceRule_inputBlind _ _ _) bs s

theorem notFetched_of_copy {s : State} (h : s.phase = .copy) : notFetched .noElement s = execCopy s := if_pos h

theorem notFetched_of_not_copy {s : State} (h : s.phase ≠ .copy) : notFetched .noElement s = .next s := if_neg h

theorem notFetched_withLater {r : Reject} (hr : r ≠ .short) (bs : List Byte) (s : State) :
    notFetched r (s.withLater bs) = withLaterBytes bs (notFetched r s) := by
  cases r with
  | short => exact absurd rfl hr
  | invalidCode => rfl
  | noElement =>
    by_cases h : s.phase = .copy
    · rw [notFetched_of_copy h, notFetched_of_copy (s := s.withLater bs) h]
      exact execCopy_withLater bs s
    · rw [notFetched_of_not_copy h, notFetched_of_not_copy (s := s.withLater bs) h]
      rfl

/-- Settles O40: the fetch is settled, and what is then done is blind to the later bytes. -/
theorem laterBytesDoNotMatter : Obligations.LaterBytesDoNotMatter := by
  intro s bs hs hshort
  have hfetch := fetch_settled hs bs hshort
  change coreStep (s.withLater bs) = withLaterBytes bs (coreStep s)
  unfold coreStep
  rw [hfetch]
  cases h : fetch s with
  | ok i c => exact exec_withLater i bs s
  | reject r => exact notFetched_withLater (fun hr => hshort (hr ▸ h)) bs s

theorem coreStep_of_reject {s : State} {r : Reject} (h : fetch s = .reject r) : coreStep s = notFetched r s := by
  simp only [coreStep, h]

/-- Settles O38: the three answers of `notFetched`. -/
theorem shortInput : Obligations.ShortInput := by
  refine fun s => ⟨fun h heos => ?_, fun h heos => ?_, fun h => ?_⟩
  · rw [coreStep_of_reject h, notFetched, heos]
    rfl
  · rw [coreStep_of_reject h, notFetched, if_pos heos]
    rfl
  · exact coreStep_of_reject h

end Sys2Proof.Machine
end

section
/-! What a walk that answers has read: a symbol's code and nothing else (R142 to R145); and the tables with one symbol or
none (R147). -/

namespace Sys2Proof.Machine

/-! ### The code of a symbol (R143) -/

theorem nodup_symbolsOfLength (L : List Nat) (len : Nat) : (symbolsOfLength L len).Nodup := by
  have hzip : ((List.range L.length).zip L).Nodup := by
    refine .of_map Prod.fst ?_
    rw [List.map_fst_zip (by simp)]
    exact List.nodup_range
  refine hzip.filterMap fun p q s hp hq => ?_
  simp only [Option.mem_def, Option.ite_none_right_eq_some, Option.some.injEq] at hp hq
  exact Prod.ext (hp.2.trans hq.2.symm) (hp.1.trans hq.1.symm)

/-- The code of a symbol that has one (R142, R143). -/
theorem codeOf_of_getElem? {L : List Nat} {k len : Nat} (h0 : 0 < len) (hk : L[k]? = some len) :
    codeOf L k = some (len, firstCode L len + (L.take k).count len) := by
  have hget : L.getD k 0 = len := by simp [hk]
  rw [codeOf, hget]
  exact if_neg (Nat.ne_of_gt h0)

/-- The codes of one length go to its symbols in order (R143). -/
theorem codeOf_of_getElem?_symbolsOfLength {L : List Nat} {len i k : Nat} (h0 : 0 < len)
    (h : (symbolsOfLength L len)[i]? = some k) : codeOf L k = some (len, firstCode L len + i) := by
  have hk := getElem?_of_mem_symbolsOfLength (List.mem_of_getElem? h)
  have hplace : i = (L.take k).count len :=
    (List.getElem?_inj (List.getElem?_eq_some_iff.1 h).1 (nodup_symbolsOfLength L len)).1
      (h.trans (getElem?_symbolsOfLength h0 hk).symm)
  rw [codeOf_of_getElem? h0 hk, hplace]

/-! ### One bit of a walk (R145) -/

/-- The next bit makes the code of a symbol, which ends the walk, or the walk goes on behind it. -/
theorem huffmanWalk_cons {L : List Nat} {m len : Nat} (hm : len < m) (fuel code pos : Nat) (b : Bool) (rest : List Bool) :
    (∃ k, codeOf L k = some (len + 1, code * 2 + b.toNat) ∧
      huffmanWalk L m (fuel + 1) len code ⟨pos, b :: rest⟩ = .ok k ⟨pos + 1, rest⟩) ∨
    huffmanWalk L m (fuel + 1) len code ⟨pos, b :: rest⟩ =
      huffmanWalk L m fuel (len + 1) (code * 2 + b.toNat) ⟨pos + 1, rest⟩ := by
  rw [huffmanWalk, readBit_cons]
  simp only [bind_ok, BitVec.toNat_ofBool]
  split
  next hcode =>
    obtain ⟨i, hi⟩ := Nat.exists_eq_add_of_le hcode.1
    have hlt : i < blCount L (len + 1) := by omega
    have hsym := List.getElem?_eq_getElem ((length_symbolsOfLength L (Nat.succ_pos len)).symm ▸ hlt)
    refine .inl ⟨_, hi ▸ codeOf_of_getElem?_symbolsOfLength (Nat.succ_pos len) hsym, ?_⟩
    rw [hi, Nat.add_sub_cancel_left, getElem?_symsFrom (Nat.succ_pos len) hm hlt, hsym]
  next => exact .inr rfl

/-! ### The bits a walk reads (R145) -/

/-- The last bit of what is left of a code without its last `r` bits, and what is left without that bit too. -/
theorem testBit_and_div_of_div_two_pow_eq {code r x : Nat} {b : Bool} (h : code / 2 ^ r = x * 2 + b.toNat) :
    code.testBit r = b ∧ code / 2 ^ (r + 1) = x := by
  have hb := b.toNat_lt
  rw [Nat.testBit_eq_decide_div_mod_eq, Nat.pow_succ, ← Nat.div_div_eq_div_mul, h]
  exact ⟨by cases b <;> simp, by omega⟩

/-- A walk that answers has taken the last `r` bits of the symbol's code, those before them being the code it stood at. -/
theorem huffmanWalk_eq_ok {L : List Nat} {m fuel len code k : Nat} {c c' : Cursor} (hm : len + fuel = m)
    (h : huffmanWalk L m fuel len code c = .ok k c') :
    ∃ r code', codeOf L k = some (len + r, code') ∧ code' / 2 ^ r = code ∧ c.rest = msbBits r code' ++ c'.rest ∧
      c'.pos = c.pos + r := by
  induction fuel generalizing len code c with
  | zero => cases h
  | succ fuel ih =>
    obtain ⟨pos, rest⟩ := c
    cases rest with
    | nil => cases h
    | cons b rest =>
      rcases huffmanWalk_cons (L := L) (by omega : len < m) fuel code pos b rest with ⟨k', hk, hwalk⟩ | hwalk
      · cases hwalk.symm.trans h
        obtain ⟨hbit, hdiv⟩ := testBit_and_div_of_div_two_pow_eq (r := 0) (Nat.div_one (code * 2 + b.toNat))
        refine ⟨1, _, hk, hdiv, ?_, rfl⟩
        rw [msbBits_succ, hbit]
        rfl
      · rw [hwalk] at h
        obtain ⟨r, code', hk, hdiv, hrest, hpos⟩ := ih (by omega) h
        obtain ⟨hbit, hdiv⟩ := testBit_and_div_of_div_two_pow_eq hdiv
        refine ⟨r + 1, code', by rw [hk, Nat.add_right_comm, Nat.add_assoc], hdiv, ?_, by simp only [hpos]; omega⟩
        rw [msbBits_succ, hbit]
        exact congrArg (b :: ·) hrest

/-- A walk that answers a symbol has read the symbol's code (R145). -/
theorem decodeSym_eq_ok {L : List Nat} {m k : Nat} {c c' : Cursor} (h : decodeSym L m c = .ok k c') :
    ∃ bits, codeBits L k = some bits ∧ c.rest = bits ++ c'.rest ∧ c'.pos = c.pos + bits.length := by
  obtain ⟨r, code, hk, hdiv, hrest, hpos⟩ := huffmanWalk_eq_ok (Nat.zero_add m) h
  rw [Nat.zero_add] at hk
  have hfit : code < 2 ^ r := by simpa using hdiv
  exact ⟨msbBits r code, codeBits_of_codeOf hk hfit, hrest, by rw [length_msbBits, hpos]⟩

/-- Settles O52. -/
theorem symbolsAndCodes : Obligations.SymbolsAndCodes :=
  fun _ _ hL => ⟨fun _ pos _ tail h => decodeSym_codeBits hL h pos tail, fun _ _ _ => decodeSym_eq_ok⟩

/-! ### A walk that meets no code (R145) -/

/-- With as many bits at hand as the walk may take, it is not short. -/
theorem huffmanWalk_ok_or_invalidCode {L : List Nat} {m fuel len code : Nat} {c : Cursor} (hm : len + fuel = m)
    (hbits : fuel ≤ c.rest.length) : (∃ k c', huffmanWalk L m fuel len code c = .ok k c') ∨
      huffmanWalk L m fuel len code c = .reject .invalidCode := by
  induction fuel generalizing len code c with
  | zero => exact .inr rfl
  | succ fuel ih =>
    obtain ⟨pos, rest⟩ := c
    cases rest with
    | nil => simp at hbits
    | cons b rest =>
      rcases huffmanWalk_cons (L := L) (by omega : len < m) fuel code pos b rest with ⟨k, -, hwalk⟩ | hwalk
      · exact .inl ⟨k, _, hwalk⟩
      · rw [hwalk]
        exact ih (by omega) (by simpa using hbits)

/-- Where the bits begin with no symbol's code, the walk fails after the maximum length. -/
theorem decodeSym_invalidCode {L : List Nat} {m : Nat} {c : Cursor} (hbits : m ≤ c.rest.length)
    (hno : ∀ k code, codeBits L k = some code → ¬code <+: c.rest) : decodeSym L m c = .reject .invalidCode := by
  rcases huffmanWalk_ok_or_invalidCode (L := L) (code := 0) (Nat.zero_add m) hbits with ⟨k, c', h⟩ | h
  · obtain ⟨code, hcode, hrest, -⟩ := decodeSym_eq_ok h
    exact absurd (hrest ▸ List.prefix_append code c'.rest) (hno k code hcode)
  · exact h

/-! ### Tables with one symbol or none (R147) -/

theorem msbBits_zero_code (n : Nat) : msbBits n 0 = List.replicate n false := by simp [msbBits]

theorem firstCode_eq_zero {L : List Nat} {n : Nat} (h : ∀ len < n, blCount L len = 0) : firstCode L n = 0 := by
  induction n with
  | zero => rfl
  | succ n ih => rw [firstCode, ih fun len hlen => h len (by omega), h n (by omega)]

theorem codeBits_replicate_zero (size k : Nat) : codeBits (List.replicate size 0) k = none := by
  by_contra hsome
  obtain ⟨bits, h⟩ := Option.ne_none_iff_exists'.1 hsome
  obtain ⟨len, -, h0, hk, -⟩ := codeBits_eq_some h
  have hmem := List.eq_of_mem_replicate (List.mem_of_getElem? hk)
  omega

/-- The lengths of an alphabet in which symbol `k` alone has a code. -/
def oneSymbol (size k n : Nat) : List Nat := (List.replicate size 0).set k n

theorem eq_zero_or_eq_of_mem_oneSymbol {size k n l : Nat} (h : l ∈ oneSymbol size k n) : l = 0 ∨ l = n :=
  (List.mem_or_eq_of_mem_set h).imp_left List.eq_of_mem_replicate

/-- The only code starts at 0, as no shorter code and no smaller symbol has a length. -/
theorem codeBits_oneSymbol {size k n : Nat} (hk : k < size) (hn : 1 ≤ n) :
    codeBits (oneSymbol size k n) k = some (List.replicate n false) := by
  have hget : (oneSymbol size k n)[k]? = some n := by simp [oneSymbol, hk]
  have hfirst : firstCode (oneSymbol size k n) n = 0 := by
    refine firstCode_eq_zero fun len hlen => ?_
    rw [blCount]
    split
    · rfl
    · refine List.count_eq_zero.2 fun hmem => ?_
      have := eq_zero_or_eq_of_mem_oneSymbol hmem
      omega
  have hbelow : ((oneSymbol size k n).take k).count n = 0 := by
    rw [oneSymbol, List.take_set_of_le (Nat.le_refl k), List.take_replicate]
    exact List.count_eq_zero.2 fun hmem => by have := List.eq_of_mem_replicate hmem; omega
  have hcode := codeOf_of_getElem? hn hget
  rw [hfirst, hbelow] at hcode
  rw [codeBits_of_codeOf hcode (by positivity), msbBits_zero_code]

theorem eq_of_codeBits_oneSymbol {size k n j : Nat} {bits : List Bool}
    (h : codeBits (oneSymbol size k n) j = some bits) : j = k := by
  obtain ⟨len, -, h0, hj, -⟩ := codeBits_eq_some h
  by_contra hne
  rw [oneSymbol, List.getElem?_set_ne (Ne.symm hne)] at hj
  have hmem := List.eq_of_mem_replicate (List.mem_of_getElem? hj)
  omega

/-- Settles O54: the code of a lone symbol is `n` zero bits, and a walk past all codes fails. -/
theorem degenerateTables : Obligations.DegenerateTables := by
  intro size m bits tail pos
  have henough (hbits : bits.length = m) : m ≤ (bits ++ tail).length := by
    rw [List.length_append]
    omega
  refine ⟨fun k n hk hn hm => ⟨?_, fun hbits hne => ?_⟩, fun hbits => ?_⟩
  · have hL : ∀ l ∈ oneSymbol size k n, l ≤ m := fun l hl => by
      have := eq_zero_or_eq_of_mem_oneSymbol hl
      omega
    have h := decodeSym_codeBits hL (codeBits_oneSymbol hk hn) pos tail
    rw [List.length_replicate] at h
    exact h
  · refine decodeSym_invalidCode (L := oneSymbol size k n) (henough hbits) fun j code hcode hpre => hne ?_
    obtain rfl := eq_of_codeBits_oneSymbol hcode
    obtain rfl : List.replicate n false = code := Option.some.inj ((codeBits_oneSymbol hk hn).symm.trans hcode)
    have htake := List.prefix_iff_eq_take.1 hpre
    rw [List.length_replicate, List.take_append_of_le_length (by omega)] at htake
    exact htake.symm
  · refine decodeSym_invalidCode (henough hbits) fun j code hcode => ?_
    rw [codeBits_replicate_zero] at hcode
    cases hcode

end Sys2Proof.Machine
end

section
/-! `Emit` and the COPY rule (42_sliding_window R161, R163): what each writes, and when it holds. -/

namespace Sys2Proof.Machine

/-! ### Emit (R161) -/

theorem emit_of_sinkReady {s : State} (h : s.sinkReady = true) (b : Byte) : emit b s = .done (emitted b s) := if_pos h

theorem emit_of_not_sinkReady {s : State} (h : s.sinkReady = false) (b : Byte) : emit b s = .hold := by simp [emit, h]

/-- `Emit` writes the cell at WPOS and no other (R64, R161). -/
theorem emitted_win_read (b : Byte) (s : State) :
    (emitted b s).win.read s.wpos = some b ∧ ∀ a : BitVec 15, a ≠ s.wpos → (emitted b s).win.read a = s.win.read a :=
  ⟨Memory.read_write_same s.win s.wpos b, fun _ ha => Memory.read_write_other s.win ha b⟩

/-- Settles O22: the registers by definition, the window by `emitted_win_read`. -/
theorem emitByte : Obligations.EmitByte := fun s b =>
  ⟨fun h => emit_of_not_sinkReady h b, fun h => ⟨emitted b s, emit_of_sinkReady h b, rfl, emitted_win_read b s⟩⟩

/-! ### COPY (R163) -/

/-- What COPY leaves when it has emitted the byte it read (R163, R164). -/
def copied (b : Byte) (s : State) : State :=
  { emitted b s with mlen := s.mlen - 1, phase := if s.mlen = 1 then .symbol else .copy }

theorem copied_of_ne_one {s : State} (h : s.mlen ≠ 1) (ph : s.phase = .copy) (b : Byte) :
    copied b s = { emitted b s with mlen := s.mlen - 1 } := by
  rw [copied, if_neg h, ← ph]
  rfl

theorem copied_of_eq_one {s : State} (h : s.mlen = 1) (b : Byte) :
    copied b s = { emitted b s with mlen := 0, phase := .symbol } := by
  rw [copied, if_pos h, h]
  rfl

/-- In COPY no element is read: the core's step is the COPY rule (R25). -/
theorem coreStep_of_copy {s : State} (ph : s.phase = .copy) : coreStep s = execCopy s := by
  have hf : fetch s = .reject .noElement := by simp [fetch, decode, decodeCtx, ph]
  rw [coreStep_of_reject hf, notFetched_of_copy ph]

@[simp] theorem copied_mlen (b : Byte) (s : State) : (copied b s).mlen = s.mlen - 1 := rfl

theorem execCopy_beyond {s : State} (hd : s.total < s.mdist.toNat) :
    execCopy s = .next (enterError .invalidBackReference s) :=
  commit_raise (if_pos hd)

theorem execCopy_of_not_sinkReady {s : State} {b : Byte} (hd : s.mdist.toNat ≤ s.total)
    (hb : s.win.read (copyAddr s) = some b) (hs : s.sinkReady = false) : execCopy s = .next s := by
  refine commit_hold ?_
  simp only [if_neg (Nat.not_lt.2 hd), hb, emit_of_not_sinkReady hs, andThen_hold]

theorem execCopy_of_sinkReady {s : State} {b : Byte} (ph : s.phase = .copy) (hd : s.mdist.toNat ≤ s.total)
    (hb : s.win.read (copyAddr s) = some b) (hs : s.sinkReady = true) : execCopy s = .next (copied b s) := by
  have hlast : s.mlen - 1 = 0 ↔ s.mlen = 1 := sub_eq_zero
  refine commit_done ?_
  simp only [if_neg (Nat.not_lt.2 hd), hb, emit_of_sinkReady hs, andThen_done, emitted_mlen, emitted_phase, hlast, ph,
    copied]

/-- Settles O33: the distance fault, or `copied` with bytes still due or none. -/
theorem copyByte : Obligations.CopyByte := by
  intro s ph
  rw [coreStep_of_copy ph]
  refine ⟨execCopy_beyond, fun hd hs b hb => ?_⟩
  rw [execCopy_of_sinkReady ph hd hb hs]
  exact ⟨fun h => by rw [copied_of_ne_one h ph], fun h => by rw [copied_of_eq_one h], emitted_win_read b s⟩

/-! ### A sink that is not ready (R161, R349) -/

theorem execLit_of_not_sinkReady {s : State} (h : s.sinkReady = false) (b : Byte) : execLit b s = .next s :=
  commit_hold (r := fun s => emit b (advance (llBits b.toNat s) s))
    (emit_of_not_sinkReady (s := advance (llBits b.toNat s) s) h b)

theorem execStoredByte_of_not_sinkReady {s : State} (h : s.sinkReady = false) (b : Byte) :
    execStoredByte b s = .next s := by
  unfold execStoredByte
  exact commit_hold (by rw [emit_of_not_sinkReady (s := advance 8 s) h, andThen_hold])

/-- Settles O36: each of the three rules is at its `Emit`, which holds. -/
theorem sinkNotReady : Obligations.SinkNotReady := by
  refine fun s hs => ⟨fun b => ⟨execLit_of_not_sinkReady hs b, execStoredByte_of_not_sinkReady hs b⟩,
    fun ph hd hsome => ?_⟩
  obtain ⟨b, hb⟩ := Option.isSome_iff_exists.1 hsome
  rw [coreStep_of_copy ph, execCopy_of_not_sinkReady hd hb hs]

end Sys2Proof.Machine
end

section
/-! What a back-reference reads from the ring (42_sliding_window R163, R165, R167). -/

namespace Sys2Proof.Machine

/-- The address of a back-reference read lies in the ring, so its 15 bits cut nothing off (R64). -/
theorem copyAddr_toNat (s : State) :
    ((copyAddr s).toNat : Int) = ((s.wpos.toNat : Int) - s.mdist.toNat) % (2 ^ s.wbits.toNat : Nat) := by
  have hle := wbits_pow_le s.wbits
  have hpos : (0 : Int) < (2 ^ s.wbits.toNat : Nat) := mod_cast Nat.two_pow_pos s.wbits.toNat
  have hnonneg := Int.emod_nonneg ((s.wpos.toNat : Int) - s.mdist.toNat) (Int.ne_of_gt hpos)
  have hlt := Int.emod_lt_of_pos ((s.wpos.toNat : Int) - s.mdist.toNat) hpos
  rw [copyAddr, BitVec.toNat_ofInt]
  omega

/-- The cell at the address a distance gives is the cell of every position of OUT so far back, up to whole turns of the
ring (R65, R165). -/
theorem copyAddr_eq {s : State} {n : Nat}
    (h : n + s.mdist.toNat ≡ s.wpos.toNat [MOD 2 ^ s.wbits.toNat]) :
    copyAddr s = BitVec.ofNat 15 (n % 2 ^ s.wbits.toNat) := by
  have hle := wbits_pow_le s.wbits
  have hlt : n % 2 ^ s.wbits.toNat < 2 ^ s.wbits.toNat := Nat.mod_lt _ (Nat.two_pow_pos _)
  have hmod : ((s.wpos.toNat : Int) - s.mdist.toNat) ≡ n [ZMOD (2 ^ s.wbits.toNat : Nat)] := by
    have := ((Int.natCast_modEq_iff.2 h).symm.sub_right (s.mdist.toNat : Int))
    simpa using this
  apply BitVec.eq_of_toNat_eq
  rw [BitVec.toNat_ofNat, Nat.mod_eq_of_lt (by omega), ← Int.natCast_inj, copyAddr_toNat, hmod, Int.natCast_mod]

/-- The address is the low WBITS bits of the two's-complement difference (R165). -/
theorem copyAddr_toNat_eq_sub (s : State) :
    (copyAddr s).toNat = (s.wpos.setWidth 16 - s.mdist).toNat % 2 ^ s.wbits.toNat := by
  have hle := wbits_pow_le s.wbits
  have hlt : (s.wpos.setWidth 16 - s.mdist).toNat % 2 ^ s.wbits.toNat < 2 ^ s.wbits.toNat :=
    Nat.mod_lt _ (Nat.two_pow_pos _)
  have hdvd : 2 ^ s.wbits.toNat ∣ 2 ^ 16 := Nat.pow_dvd_pow 2 (by have := s.wbits.isLt; omega)
  have hsum : (s.wpos.setWidth 16 - s.mdist).toNat + s.mdist.toNat ≡ s.wpos.toNat [MOD 2 ^ 16] := by
    have := s.mdist.isLt
    have := s.wpos.isLt
    unfold Nat.ModEq
    bv_omega
  rw [copyAddr_eq (hsum.of_dvd hdvd), BitVec.toNat_ofNat, Nat.mod_eq_of_lt (by omega)]

/-- In a window that holds the last bytes of OUT, a back-reference reads the byte `back` positions back, where `back` is
its distance up to whole turns of the ring and one of the bytes still held (R165, R167). -/
theorem WindowHolds.read_copyAddr {s : State} (h : WindowHolds s) {back : Nat} (hpos : 1 ≤ back)
    (hlen : back ≤ s.output.length) (hcap : back ≤ 2 ^ s.wbits.toNat)
    (hmod : back ≡ s.mdist.toNat [MOD 2 ^ s.wbits.toNat]) :
    s.win.read (copyAddr s) = s.output[s.output.length - back]? := by
  have hcell : s.output.length - back + s.mdist.toNat ≡ s.wpos.toNat [MOD 2 ^ s.wbits.toNat] := by
    calc s.output.length - back + s.mdist.toNat
        ≡ s.output.length - back + back [MOD 2 ^ s.wbits.toNat] := hmod.symm.add_left _
      _ = s.total := by rw [Nat.sub_add_cancel hlen, h.total]
      _ ≡ s.wpos.toNat [MOD 2 ^ s.wbits.toNat] := by rw [h.wpos]; exact (Nat.mod_modEq _ _).symm
  rw [copyAddr_eq hcell]
  exact h.cells _ (by omega) (by omega)

/-- The distance at which a ring of `cap` cells answers a distance `d`: the remainder, in 1 to `cap` (R165). -/
theorem ringDistance_spec {cap d : Nat} (hcap : 0 < cap) (hd : 1 ≤ d) :
    let back := if d % cap = 0 then cap else d % cap
    1 ≤ back ∧ back ≤ cap ∧ back ≤ d ∧ back ≡ d [MOD cap] ∧ (d ≤ cap → back = d) := by
  intro back
  have hlt := Nat.mod_lt d hcap
  by_cases h : d % cap = 0
  · have hback : back = cap := if_pos h
    have hle : cap ≤ d := Nat.le_of_dvd hd (Nat.dvd_of_mod_eq_zero h)
    rw [hback]
    exact ⟨hcap, le_rfl, hle, by rw [Nat.ModEq, Nat.mod_self, h], fun hd' => by omega⟩
  · have hback : back = d % cap := if_neg h
    rw [hback]
    refine ⟨by omega, hlt.le, Nat.mod_le d cap, Nat.mod_modEq d cap, fun hd' => ?_⟩
    have hne : d ≠ cap := by rintro rfl; exact h (Nat.mod_self d)
    exact Nat.mod_eq_of_lt (by omega)

/-- Settles O34: the distance reduced to the ring is one of the bytes the window holds. -/
theorem copyReadsTheWindow : Obligations.CopyReadsTheWindow := by
  refine ⟨copyAddr_toNat_eq_sub, fun s h hpos htotal => ?_⟩
  intro cap back
  obtain ⟨hback, hcap, hle, hmod, hid⟩ := ringDistance_spec (Nat.two_pow_pos s.wbits.toNat) hpos
  have hlen : back ≤ s.output.length := by
    rw [← h.total]
    exact hle.trans htotal
  exact ⟨⟨hback, hlen, h.read_copyAddr hback hlen hcap hmod⟩, hid⟩

end Sys2Proof.Machine
end

section
/-! A whole back-reference (42_sliding_window R163, R166): COPY runs until MLEN is used up. -/

namespace Sys2Proof.Machine

/-- The last `d` bytes of `out`, repeated cyclically to length `n` (R166). -/
def cyclicCopy (d n : Nat) (out : List Byte) : List Byte :=
  (List.range n).map fun i => out.getD (out.length - d + i % d) 0

/-- Copying byte by byte, each byte copied being itself a source of the later ones, repeats the last bytes (R166). -/
theorem cyclicCopy_succ {d : Nat} {out : List Byte} (hpos : 1 ≤ d) (hlen : d ≤ out.length) (n : Nat) {b : Byte}
    (hb : out[out.length - d]? = some b) : cyclicCopy d (n + 1) out = b :: cyclicCopy d n (out ++ [b]) := by
  have hfirst : out.getD (out.length - d + 0 % d) 0 = b := by simp [List.getD, hb]
  have hnext (i : Nat) : out.getD (out.length - d + (i + 1) % d) 0 =
      (out ++ [b]).getD ((out ++ [b]).length - d + i % d) 0 := by
    have hi := Nat.mod_lt i hpos
    rw [List.length_append, List.length_singleton]
    by_cases hwrap : i % d + 1 = d
    · have hzero : (i + 1) % d = 0 := by rw [Nat.add_mod_eq_add_mod_right 1 (Nat.mod_mod i d).symm, hwrap, Nat.mod_self]
      have hend : out.length + 1 - d + i % d = out.length := by omega
      rw [hzero, hend]
      simp [List.getD, hb]
    · have hsucc : (i + 1) % d = i % d + 1 := by
        rw [Nat.add_mod_eq_add_mod_right 1 (Nat.mod_mod i d).symm, Nat.mod_eq_of_lt (by omega)]
      have hshift : out.length + 1 - d + i % d = out.length - d + (i % d + 1) := by omega
      rw [hsucc, hshift, List.getD_append _ _ _ _ (by omega)]
  simp only [cyclicCopy, List.range_succ_eq_map, List.map_cons, List.map_map, hfirst]
  exact congrArg _ (List.map_congr_left fun i _ => hnext i)

/-- A back-reference is being copied, no other agent is due, the sink takes bytes, and the distance is within OUT and
the ring. `Tests.copyState` is such a state (`witness_windowHolds`, `witness_copy`). -/
structure Copying (s : State) : Prop where
  window : WindowHolds s
  phase : s.phase = .copy
  pending : s.pending = []
  sinkReady : s.sinkReady = true
  pos : 1 ≤ s.mdist.toNat
  total : s.mdist.toNat ≤ s.total
  cap : s.mdist.toNat ≤ 2 ^ s.wbits.toNat

/-- One step of a back-reference copies the first byte of what it will have copied in the end (R163, R166). -/
theorem Copying.step_eq {s : State} (h : Copying s) : ∃ b, step s = .next (copied b s) ∧
    ∀ n, cyclicCopy s.mdist.toNat (n + 1) s.output = b :: cyclicCopy s.mdist.toNat n (s.output ++ [b]) := by
  have hpos := h.pos
  have hlen : s.mdist.toNat ≤ s.output.length := h.window.total ▸ h.total
  have hread := h.window.read_copyAddr hpos hlen h.cap rfl
  have hsome := List.getElem?_eq_getElem (l := s.output) (i := s.output.length - s.mdist.toNat) (by omega)
  refine ⟨_, ?_, fun n => cyclicCopy_succ hpos hlen n hsome⟩
  rw [step, stepAgents, h.pending]
  exact (coreStep_of_copy h.phase).trans (execCopy_of_sinkReady h.phase h.total (hread.trans hsome) h.sinkReady)

/-- While bytes are still due the copying goes on. -/
theorem Copying.next {s : State} (h : Copying s) (hmore : s.mlen ≠ 1) (b : Byte) : Copying (copied b s) := by
  have hz : s.phase ≠ .zlibHdr := by simp [h.phase]
  rw [copied_of_ne_one hmore h.phase]
  exact {
    window := (windowHolds_emitted h.window hz b).congr rfl rfl rfl rfl rfl hz
    phase := h.phase
    pending := h.pending
    sinkReady := h.sinkReady
    pos := h.pos
    total := Nat.le_succ_of_le h.total
    cap := h.cap }

theorem steps_succ_of_step {s t : State} (h : step s = .next t) (n : Nat) : steps (n + 1) s = steps n t := by
  rw [steps, h]

/-- Every step emits one byte and counts it off MLEN, until the last one goes back to SYMBOL (R163). -/
theorem Copying.run {n : Nat} {s : State} (h : Copying s) (hmlen : s.mlen.toNat = n + 1) :
    ∃ t, steps (n + 1) s = .next t ∧ t.phase = .symbol ∧ t.mlen = 0 ∧ t.pc = s.pc ∧
      t.output = s.output ++ cyclicCopy s.mdist.toNat (n + 1) s.output := by
  induction n generalizing s with
  | zero =>
    obtain ⟨b, hstep, hcopy⟩ := h.step_eq
    have hlast : s.mlen = 1 := BitVec.eq_of_toNat_eq hmlen
    rw [steps_succ_of_step hstep, hcopy, copied_of_eq_one hlast]
    exact ⟨_, rfl, rfl, rfl, rfl, rfl⟩
  | succ n ih =>
    obtain ⟨b, hstep, hcopy⟩ := h.step_eq
    have hmore : s.mlen ≠ 1 := by
      intro e
      simp [e] at hmlen
    have hrest : (copied b s).mlen.toNat = n + 1 := by
      rw [copied_mlen]
      bv_omega
    obtain ⟨t, hsteps, hphase, hzero, hpc, hout⟩ := ih (h.next hmore b) hrest
    refine ⟨t, (steps_succ_of_step hstep _).trans hsteps, hphase, hzero, hpc, ?_⟩
    rw [hout, hcopy]
    exact List.append_assoc _ _ _

/-- Settles O35: the bytes copied one by one are the last ones repeated. -/
theorem copyRun : Obligations.CopyRun := by
  intro s window phase pending sinkReady hmlen pos total cap
  obtain ⟨n, hn⟩ := Nat.exists_eq_add_of_le' hmlen
  rw [hn]
  exact Copying.run ⟨window, phase, pending, sinkReady, pos, total, cap⟩ hn

end Sys2Proof.Machine
end

section
/-! The block layer (43_deflate_blocks R176 to R183): block headers, stored blocks, the fixed-size part of a dynamic
header; and the elements that fault. -/

namespace Sys2Proof.Machine

theorem vecOf_eq_ofFn {α : Type} (n : Nat) (f : Nat → α) : vecOf n f = Vector.ofFn fun k => f k.val := by
  ext k hk
  simp [vecOf]

/-! ### Elements that fault (R176, R206, R207) -/

theorem runDist_of_reserved {d : DistPart} (h : 30 ≤ d.sym.toNat) (s : State) :
    runDist d s = .raise .invalidDistanceSymbol := by
  rcases runDist_cases d s with ⟨hlt, -⟩ | ⟨-, e⟩
  · omega
  · exact e

/-- A back-reference whose distance symbol is 30 or 31 faults with nothing written, MLEN neither (R207, R380). -/
theorem commit_lengthRule_of_reserved {d : DistPart} (h : 30 ≤ d.sym.toNat) (k ex len : Nat) (s : State) :
    commit (lengthRule k ex len d) s = .next (enterError .invalidDistanceSymbol s) :=
  commit_raise (runDist_of_reserved h _)

/-- Settles O10: five elements raise at once, the 29 lengths where they run their distance part. -/
theorem faultElements : Obligations.FaultElements := by
  refine fun s final => ⟨rfl, rfl, rfl, rfl, rfl, fun d e h => ?_⟩
  iterate 28 refine ⟨commit_lengthRule_of_reserved h _ _ _ s, ?_⟩
  exact commit_lengthRule_of_reserved h _ _ _ s

/-! ### Block headers (R176) -/

/-- The fixed literal/length code lengths in the ranges of R103. -/
theorem fixedLlLen_eq (k : Nat) :
    fixedLlLen k = if k ≤ 143 then 8 else if k ≤ 255 then 9 else if k ≤ 279 then 7 else 8 := by
  simp only [fixedLlLen, Nat.lt_succ_iff]

/-- Settles O19: each header runs to its state; the fixed lengths are those of R103. -/
theorem blockHeaders : Obligations.BlockHeaders := by
  refine fun s final => ⟨rfl, ?_, rfl⟩
  have hll : vecOf 288 fixedLlLen = Vector.ofFn fun k =>
      if k.val ≤ 143 then 8 else if k.val ≤ 255 then 9 else if k.val ≤ 279 then 7 else 8 := by
    simp only [vecOf_eq_ofFn, fixedLlLen_eq]
  have hd : vecOf 32 fixedDLen = Vector.ofFn fun _ => 5 := vecOf_eq_ofFn 32 fixedDLen
  rw [← hll, ← hd]
  rfl

/-! ### The end of a block (R177) -/

theorem afterBlock_congr {s t : State} (hb : t.bfinal = s.bfinal) (hm : t.mode = s.mode) :
    afterBlock t = afterBlock s := by
  rw [afterBlock, afterBlock, hb, hm]

/-- Settles O20: BFINAL decides, then MODE, and no other register is read. -/
theorem afterBlock_spec : Obligations.AfterBlock := by
  refine fun s => ⟨fun h => ?_, fun h hm => ?_, fun h hm => ?_, fun h hm => ?_, fun _ => afterBlock_congr⟩
  · exact if_neg (Bool.eq_false_iff.1 h)
  all_goals rw [afterBlock, if_pos h, hm]

/-! ### Stored blocks (R178, R179) -/

/-- The complement test of R178, as the xor of the two words. -/
theorem xor_eq_allOnes_iff (a b : BitVec 16) : a ^^^ b = 0xFFFF ↔ a = ~~~b := by
  rw [show (0xFFFF : BitVec 16) = BitVec.allOnes 16 from rfl, ← BitVec.xor_allOnes, ← BitVec.xor_left_inj b,
    BitVec.xor_assoc, BitVec.xor_self, BitVec.xor_zero, BitVec.xor_comm]

theorem exec_storedHdr_of_complement {len nlen : BitVec 16} (h : len = ~~~nlen) (s : State) :
    exec (.storedHdr len nlen) s = .next { s with
      pc := alignUp s.pc + 32, slen := len, phase := if len = 0 then afterBlock s else .storedCopy } := by
  rw [exec, execStoredHdr]
  exact commit_done (if_neg (not_not.2 h))

theorem exec_storedHdr_of_mismatch {len nlen : BitVec 16} (h : len ≠ ~~~nlen) (s : State) :
    exec (.storedHdr len nlen) s = .next (enterError .storedLenMismatch s) := by
  rw [exec, execStoredHdr]
  exact commit_raise (if_pos h)

/-- Settles O21: the complement test first, then whether the block is empty. -/
theorem storedHeader : Obligations.StoredHeader := by
  intro s len nlen
  simp only [Ne, xor_eq_allOnes_iff]
  refine ⟨fun h hne => ?_, fun h hz => ?_, fun h => exec_storedHdr_of_mismatch h s⟩
  · rw [exec_storedHdr_of_complement h, if_neg hne]
  · rw [exec_storedHdr_of_complement h, if_pos hz, hz]

theorem exec_storedByte_of_sinkReady {s : State} (h : s.sinkReady = true) (b : Byte) :
    exec (.storedByte b) s = .next { emitted b s with
      pc := s.pc + 8, slen := s.slen - 1, phase := if s.slen = 1 then afterBlock s else s.phase } := by
  have hlast : s.slen - 1 = 0 ↔ s.slen = 1 := sub_eq_zero
  rw [exec, execStoredByte]
  refine commit_done ?_
  rw [emit_of_sinkReady (s := advance 8 s) h, andThen_done]
  simp only [emitted_slen, advance_slen, hlast]
  rfl

/-- Settles O23: the byte is emitted and counted off; the window by `emitted_win_read`. -/
theorem storedByte : Obligations.StoredByte := by
  intro s b hs _
  rw [exec_storedByte_of_sinkReady hs]
  refine ⟨fun h => ?_, fun h => ?_, emitted_win_read b s⟩
  · rw [if_neg h]
    rfl
  · rw [if_pos h, h]
    rfl

/-! ### The fixed-size part of a dynamic header (R182, R183) -/

/-- A field of the header with its offset, in a register of width `w` (R182). -/
theorem setWidth_add_ofNat {n : Nat} (v : BitVec n) (w k : Nat) :
    v.setWidth w + BitVec.ofNat w k = BitVec.ofNat w (v.toNat + k) := by
  rw [BitVec.ofNat_add, BitVec.ofNat_toNat]

/-- Settles O24: the three fields by `setWidth_add_ofNat`, the rest by definition. -/
theorem dynamicHeader : Obligations.DynamicHeader := by
  intro s l d c
  rw [← setWidth_add_ofNat l 9 257, ← setWidth_add_ofNat d 6 1, ← setWidth_add_ofNat c 5 4]
  rfl

/-- A length array with one entry replaced. -/
theorem setIfInBounds_eq_ofFn {α : Type} {n : Nat} (xs : Vector α n) (i : Nat) (v : α) :
    xs.setIfInBounds i v = Vector.ofFn fun k => if k.val = i then v else xs[k] := by
  ext k hk
  simp [Vector.getElem_setIfInBounds, eq_comm]

/-- The code-length lengths after a `DYN_CLLEN` of value `v` (R183). -/
def clLenAfter (v : BitVec 3) (s : State) (h : s.clidx.toNat < clOrder.length) : Vector (BitVec 3) 19 :=
  Vector.ofFn fun k => if k.val = clOrder[s.clidx.toNat] then v else s.clLen[k]

theorem exec_dynCllen_eq {s : State} (h : s.clidx.toNat < clOrder.length) (v : BitVec 3) :
    exec (.dynCllen v) s = .next (
      if s.clidx + 1 = s.hclen then
        { s with pc := s.pc + 3, clLen := clLenAfter v s h, clidx := s.clidx + 1, lidx := 0, phase := .dynLens }
      else { s with pc := s.pc + 3, clLen := clLenAfter v s h, clidx := s.clidx + 1 }) := by
  simp only [exec, execDynCllen, commit, List.getElem?_eq_getElem h, setIfInBounds_eq_ofFn]
  rfl

/-- Settles O25: with CLIDX below 19 its increment is that of its value, so the register test is the test of R183. -/
theorem codeLengthLength : Obligations.CodeLengthLength := by
  intro s v h cl
  have hinc : s.clidx + 1 = BitVec.ofNat 5 (s.clidx.toNat + 1) := by
    rw [BitVec.ofNat_add, BitVec.ofNat_toNat, BitVec.setWidth_eq]
    rfl
  have hlast : s.clidx + 1 = s.hclen ↔ s.clidx.toNat + 1 = s.hclen.toNat := by
    have hlt : s.clidx.toNat < 19 := h
    bv_omega
  rw [exec_dynCllen_eq h]
  refine ⟨fun hmore => ?_, fun hend => ?_⟩
  · rw [if_neg (hlast.not.2 hmore), hinc]
    rfl
  · rw [if_pos (hlast.2 hend), hlast.2 hend]
    rfl

end Sys2Proof.Machine
end

section
/-! The coded lengths of a dynamic header (43_deflate_blocks R184 to R189): more to come, the last ones, or a fault. -/

namespace Sys2Proof.Machine

theorem lensAfter_eq_filledLens (n : Nat) (v : BitVec 4) (s : State) :
    lensAfter n v s = filledLens s.lens s.lidx.toNat n v := by
  rw [lensAfter, filledLens, vecOf_eq_ofFn]
  ext i hi
  simp [entry]

theorem moreLengths_eq (bits n : Nat) (v : BitVec 4) (s : State) :
    moreLengths bits n v s = { advance bits s with
      lens := filledLens s.lens s.lidx.toNat n v, lidx := BitVec.ofNat 9 (s.lidx.toNat + n) } := by
  rw [moreLengths, lensAfter_eq_filledLens, BitVec.ofNat_add, BitVec.ofNat_toNat, BitVec.setWidth_eq]
  rfl

/-- The last lengths are the lengths of any such element, with the split of R189. -/
theorem lastLengths_eq (bits n : Nat) (v : BitVec 4) (s : State) :
    lastLengths bits n v s = { splitLens (moreLengths bits n v s) with phase := .symbol } := by
  rw [splitLens, vecOf_eq_ofFn, vecOf_eq_ofFn]
  rfl

section
variable {s : State} {n : Nat}

/-! Of the three outcomes of `appendLengths_cases`, the one that LIDX and the count choose. -/

theorem commit_codedLength_more (h : s.lidx.toNat + n < lengthsWanted s) (sym ex : Nat) (v : BitVec 4) :
    commit (codedLength sym ex v n) s = .next (moreLengths (clBits sym s + ex) n v s) := by
  rcases appendLengths_cases v n (advance (clBits sym s + ex) s) with ⟨hover, -⟩ | ⟨-, e⟩ | ⟨hlast, -⟩
  · exact absurd hover h.not_gt
  · rw [moreLengths_eq]
    exact commit_done e
  · exact absurd hlast h.ne

theorem commit_codedLength_last (h : s.lidx.toNat + n = lengthsWanted s) (sym ex : Nat) (v : BitVec 4) :
    commit (codedLength sym ex v n) s = .next (lastLengths (clBits sym s + ex) n v s) := by
  rcases appendLengths_cases v n (advance (clBits sym s + ex) s) with ⟨hover, -⟩ | ⟨hmore, -⟩ | ⟨-, e⟩
  · exact absurd h hover.ne'
  · exact absurd h hmore.ne
  · rw [lastLengths_eq, moreLengths_eq]
    exact commit_done e

theorem commit_codedLength_overrun (h : lengthsWanted s < s.lidx.toNat + n) (sym ex : Nat) (v : BitVec 4) :
    commit (codedLength sym ex v n) s = .next (enterError .repeatOverrun s) := by
  rcases appendLengths_cases v n (advance (clBits sym s + ex) s) with ⟨-, e⟩ | ⟨hmore, -⟩ | ⟨hlast, -⟩
  · exact commit_raise (r := codedLength sym ex v n) e
  · exact absurd hmore h.not_gt
  · exact absurd hlast h.ne'

end

/-- Settles O26: all 19 elements are `codedLength` with a count that leaves lengths due. -/
theorem codedLengthsMore : Obligations.CodedLengthsMore := by
  refine fun s e2 e3 e7 => ⟨fun h => ?_, fun h0 h => ?_, fun h => commit_codedLength_more h 17 3 0,
    fun h => commit_codedLength_more h 18 7 0⟩
  · iterate 15 refine ⟨commit_codedLength_more h _ 0 _, ?_⟩
    exact commit_codedLength_more h 15 0 15
  · rw [exec_clRep16_of_previous h0]
    exact commit_codedLength_more h 16 2 _

/-- Settles O27: the same 19 elements with a count that completes the lengths. -/
theorem codedLengthsLast : Obligations.CodedLengthsLast := by
  refine fun s e2 e3 e7 => ⟨fun h => ?_, fun h0 h => ?_, fun h => commit_codedLength_last h 17 3 0,
    fun h => commit_codedLength_last h 18 7 0⟩
  · iterate 15 refine ⟨commit_codedLength_last h _ 0 _, ?_⟩
    exact commit_codedLength_last h 15 0 15
  · rw [exec_clRep16_of_previous h0]
    exact commit_codedLength_last h 16 2 _

/-- Settles O28: symbol 16 tests for a previous length first; then each of the 19 elements raises where it overruns. -/
theorem codedLengthTraps : Obligations.CodedLengthTraps := by
  refine fun s e2 e3 e7 => ⟨fun h => exec_clRep16_of_first h e2, fun h0 h => ?_,
    fun h => commit_codedLength_overrun h 17 3 0, fun h => commit_codedLength_overrun h 18 7 0, fun h => ?_⟩
  · rw [exec_clRep16_of_previous h0]
    exact commit_codedLength_overrun h 16 2 _
  · iterate 15 refine ⟨commit_codedLength_overrun h _ 0 _, ?_⟩
    exact commit_codedLength_overrun h 15 0 15

end Sys2Proof.Machine
end

section
/-! The symbol loop (44_deflate_symbols R202 to R206): a literal, the end of a block, a back-reference; and the distance
part as an element of its own. -/

namespace Sys2Proof.Machine

/-! ### Literals and the end of a block (R202, R203) -/

theorem exec_lit_of_sinkReady {s : State} (h : s.sinkReady = true) (b : Byte) :
    exec (.lit b) s = .next { emitted b s with pc := s.pc + llBits b.toNat s } :=
  commit_done (r := fun s => emit b (advance (llBits b.toNat s) s))
    (emit_of_sinkReady (s := advance (llBits b.toNat s) s) h b)

/-- Settles O29: `Emit` fires behind the bits of the code; the window by `emitted_win_read`. -/
theorem literal : Obligations.Literal := fun s b h => ⟨exec_lit_of_sinkReady h b, emitted_win_read b s⟩

/-- Settles O30: the rule always fires, and only the cursor and PHASE are written. -/
theorem endOfBlock : Obligations.EndOfBlock := by
  intro s
  rw [exec, execEob]
  exact commit_done rfl

/-! ### The distance part (R204, R205) -/

/-- The rules of the distance symbols are one rule over the tables DIST_BASE and DIST_EXTRA (R101, R240 to R269). -/
theorem runDist_eq_distanceRule {d : DistPart} (h : d.sym.toNat < 30) :
    runDist d = distanceRule d.sym.toNat (distExtraBits d.sym.toNat)
      (distBase.getD d.sym.toNat 0 + (d.extra.setWidth (distExtraBits d.sym.toNat)).toNat) := by
  obtain ⟨sym, extra⟩ := d
  simp only at h
  unfold runDist
  generalize sym.toNat = k at *
  interval_cases k
  iterate 4 rw [BitVec.toNat_of_zero_length] <;> rfl
  all_goals rfl

/-- Where the extra bits fit the symbol's width, all of them count (R101). -/
theorem runDist_of_wellFormed {d : DistPart} (hwf : d.wellFormed = true) (h : d.sym.toNat < 30) :
    runDist d = distanceRule d.sym.toNat (distExtraBits d.sym.toNat) (distanceOf d) := by
  have hfit : d.extra.toNat < 2 ^ distExtraBits d.sym.toNat := of_decide_eq_true hwf
  rw [runDist_eq_distanceRule h, BitVec.toNat_setWidth, Nat.mod_eq_of_lt hfit, distanceOf]

/-! ### Back-references (R204, R210 to R238) -/

theorem commit_lengthRule_of_wellFormed {d : DistPart} (hwf : d.wellFormed = true) (h : d.sym.toNat < 30)
    (c ex len : Nat) (s : State) :
    commit (lengthRule c ex len d) s = .next (matched (llBits c s + ex + distanceBits d s) len (distanceOf d) s) := by
  refine commit_done ?_
  rw [lengthRule, runDist_of_wellFormed hwf h, distanceRule]
  simp [advance, matched, distanceBits, dBits, Nat.add_assoc]

/-- Settles O31: each of the 29 elements is `lengthRule` with its row of LEN_BASE and LEN_EXTRA. -/
theorem lengthSymbols : Obligations.LengthSymbols := by
  intro s d e hwf h
  iterate 28 refine ⟨commit_lengthRule_of_wellFormed hwf h _ _ _ s, ?_⟩
  exact commit_lengthRule_of_wellFormed hwf h 285 0 258 s

/-! ### The rows `DISTnn` as elements of their own (log 13) -/

/-- A row means what its symbol means as the distance part of a length element. -/
theorem exec_toInstr (d : DistPart) (s : State) : exec d.toInstr s = commit (runDist d) s := by
  obtain ⟨sym, extra⟩ := d
  have hlt := sym.isLt
  unfold DistPart.toInstr runDist
  generalize sym.toNat = k at *
  interval_cases k <;> rfl

theorem exec_toInstr_eq {d : DistPart} (h : d.sym.toNat < 30) (s : State) :
    exec d.toInstr s = .next { s with
      pc := s.pc + dBits d.sym.toNat s + distExtra.getD d.sym.toNat 0
      mdist := BitVec.ofNat 16
        (distBase.getD d.sym.toNat 0 + (d.extra.setWidth (distExtraBits d.sym.toNat)).toNat)
      phase := .copy } := by
  rw [exec_toInstr, runDist_eq_distanceRule h, Nat.add_assoc]
  exact commit_done rfl

/-- Settles O32: the rows are `DistPart.toInstr` of the symbols 0 to 29, the first four without extra bits. -/
theorem distanceSymbols : Obligations.DistanceSymbols := by
  intro s e t
  have row (k : BitVec 5) (h : k.toNat < 30 := by decide) :
      exec (DistPart.toInstr ⟨k, e⟩) s = t k.toNat (e.setWidth (distExtraBits k.toNat)).toNat := exec_toInstr_eq h s
  have plain (k : BitVec 5) (hx : distExtraBits k.toNat = 0) (h : k.toNat < 30 := by decide) :
      exec (DistPart.toInstr ⟨k, e⟩) s = t k.toNat 0 := by
    rw [row k h, BitVec.toNat_of_zero_length hx]
  exact ⟨plain 0 rfl, plain 1 rfl, plain 2 rfl, plain 3 rfl, row 4, row 5, row 6, row 7, row 8, row 9, row 10, row 11,
    row 12, row 13, row 14, row 15, row 16, row 17, row 18, row 19, row 20, row 21, row 22, row 23, row 24, row 25,
    row 26, row 27, row 28, row 29⟩

end Sys2Proof.Machine
end

section
/-! The checksums (45_checksums R281 to R286): the closed form of Adler32 and the table-driven form of CRC32. Adler32
goes by induction on the last byte, CRC32 by the linearity of its shift. -/

namespace Sys2Proof.Machine

/-! ### Adler32 (R281, R282) -/

theorem adlerStep_fst_toNat (a b : BitVec 16) (x : Byte) :
    (adlerStep a b x).1.toNat = (a.toNat + x.toNat) % 65521 := by
  simp only [adlerStep, Config.adlerModulus, BitVec.toNat_ofNat]
  omega

/-- `B` adds the new `A`; the two reductions are one. -/
theorem adlerStep_snd_toNat (a b : BitVec 16) (x : Byte) :
    (adlerStep a b x).2.toNat = (b.toNat + (a.toNat + x.toNat)) % 65521 := by
  simp only [adlerStep, Config.adlerModulus, BitVec.toNat_ofNat, Nat.add_mod_mod]
  omega

/-- `Σ d_i`. -/
def byteSum (bs : List Byte) : Nat := (bs.map fun b => b.toNat).sum

/-- `Σ (n - i + 1) * d_i`, the bytes counted from 1 in R282 and from 0 here. -/
def weightedSum (bs : List Byte) : Nat :=
  ((List.range bs.length).map fun i => (bs.length - i) * (bs.getD i 0).toNat).sum

theorem byteSum_concat (bs : List Byte) (b : Byte) : byteSum (bs ++ [b]) = byteSum bs + b.toNat := by
  simp [byteSum]

theorem weightedSum_cons (b : Byte) (bs : List Byte) :
    weightedSum (b :: bs) = (bs.length + 1) * b.toNat + weightedSum bs := by
  simp [weightedSum, List.range_succ_eq_map, Function.comp_def]

/-- One more byte at the end raises every weight by one. -/
theorem weightedSum_concat (bs : List Byte) (b : Byte) :
    weightedSum (bs ++ [b]) = weightedSum bs + byteSum (bs ++ [b]) := by
  induction bs with
  | nil => simp [weightedSum, byteSum]
  | cons x bs ih =>
    have hsum : byteSum (x :: (bs ++ [b])) = x.toNat + byteSum (bs ++ [b]) := by simp [byteSum]
    rw [List.cons_append, weightedSum_cons, weightedSum_cons, ih, hsum, List.length_append, List.length_singleton]
    ring

/-- The two halves together, since `B` steps by the new `A`. -/
theorem adlerOf_toNat (bs : List Byte) :
    (adlerOf bs).1.toNat = (1 + byteSum bs) % 65521 ∧
    (adlerOf bs).2.toNat = (bs.length + weightedSum bs) % 65521 := by
  induction bs using List.reverseRecOn with
  | nil => exact ⟨rfl, rfl⟩
  | append_singleton bs b ih =>
    obtain ⟨hA, hB⟩ := ih
    rw [adlerOf_concat, adlerStep_fst_toNat, adlerStep_snd_toNat, hA, hB, weightedSum_concat, byteSum_concat,
      List.length_append, List.length_singleton]
    omega

/-- `ADLER_B` in the high half, `ADLER_A` in the low (R282). -/
theorem adler32_toNat (s : State) : (adler32 s).toNat = s.adlerB.toNat * 2 ^ 16 + s.adlerA.toNat := by
  rw [adler32, BitVec.toNat_append, ← Nat.shiftLeft_add_eq_or_of_lt s.adlerA.isLt, Nat.shiftLeft_eq]

/-- Settles O55: `adlerOf_toNat` for the bytes, `adler32_toNat` for the state, the start value by evaluation. -/
theorem adlerClosedForm : Obligations.AdlerClosedForm :=
  ⟨adlerOf_toNat, adler32_toNat, rfl, rfl⟩

/-! ### CRC32 (R286) -/

/-- One of the eight shifts of `crc_step` (R286). -/
def crcShiftOne (c : BitVec 32) : BitVec 32 := if c.getLsbD 0 then (c >>> 1) ^^^ 0xEDB88320 else c >>> 1

theorem crcShift_zero (c : BitVec 32) : crcShift 0 c = c := rfl

theorem crcShift_succ (n : Nat) (c : BitVec 32) : crcShift (n + 1) c = crcShift n (crcShiftOne c) := rfl

theorem crcShift_eight (c : BitVec 32) :
    crcShift 8 c = crcShiftOne (crcShiftOne (crcShiftOne (crcShiftOne
      (crcShiftOne (crcShiftOne (crcShiftOne (crcShiftOne c))))))) := by
  simp only [crcShift_succ, crcShift_zero]

/-- Only the lowest bit decides whether the polynomial is added, so the other bits just move down. -/
theorem crcShiftOne_xor {z : BitVec 32} (hz : z.getLsbD 0 = false) (c : BitVec 32) :
    crcShiftOne (c ^^^ z) = crcShiftOne c ^^^ (z >>> 1) := by
  unfold crcShiftOne
  rw [BitVec.getLsbD_xor, hz, Bool.xor_false, BitVec.ushiftRight_xor_distrib]
  split
  · ac_rfl
  · rfl

/-- Bits above the lowest `n` come through `n` shifts unchanged. -/
theorem crcShift_xor (n : Nat) {z : BitVec 32} (hz : ∀ i < n, z.getLsbD i = false) (c : BitVec 32) :
    crcShift n (c ^^^ z) = crcShift n c ^^^ (z >>> n) := by
  induction n generalizing c z with
  | zero => simp [crcShift_zero]
  | succ n ih =>
    have hrest : ∀ i < n, (z >>> 1).getLsbD i = false := fun i hi => by
      rw [BitVec.getLsbD_ushiftRight]
      exact hz (1 + i) (by omega)
    rw [crcShift_succ, crcShiftOne_xor (hz 0 (by omega)), ih hrest, ← crcShift_succ, ← BitVec.shiftRight_add,
      Nat.add_comm 1 n]

/-- The bits of the mask that keeps the low byte. -/
theorem getLsbD_byteMask (i : Nat) : (0xFF : BitVec 32).getLsbD i = decide (i < 8) := by
  have hmask : (0xFF : BitVec 32) = (BitVec.allOnes 8).setWidth 32 := by decide
  rw [hmask, BitVec.getLsbD_setWidth, BitVec.getLsbD_allOnes, Bool.and_eq_right_iff_imp, decide_eq_true_iff,
    decide_eq_true_iff]
  omega

theorem byte_xor_aboveByte (c : BitVec 32) : (c &&& 0xFF) ^^^ (c &&& ~~~0xFF) = c := by
  apply BitVec.eq_of_getLsbD_eq
  intro i hi
  rw [BitVec.getLsbD_xor, BitVec.getLsbD_and, BitVec.getLsbD_and, BitVec.getLsbD_not]
  cases (0xFF : BitVec 32).getLsbD i <;> simp [hi]

theorem aboveByte_ushiftRight (c : BitVec 32) : (c &&& ~~~0xFF) >>> 8 = c >>> 8 := by
  have hmask : (~~~0xFF : BitVec 32) >>> 8 = BitVec.allOnes 32 >>> 8 := by decide
  rw [BitVec.ushiftRight_and_distrib, hmask, ← BitVec.ushiftRight_and_distrib, BitVec.and_allOnes]

/-- Eight shifts: the row of the table for the low byte, and the other bits moved down by a byte. -/
theorem crcShift_eight_table (c : BitVec 32) : crcShift 8 c = crcShift 8 (c &&& 0xFF) ^^^ (c >>> 8) := by
  have hlow : ∀ i < 8, (c &&& ~~~0xFF).getLsbD i = false := fun i hi => by
    rw [BitVec.getLsbD_and, BitVec.getLsbD_not, getLsbD_byteMask, decide_eq_true hi, Bool.not_true, Bool.and_false,
      Bool.and_false]
  calc crcShift 8 c
      = crcShift 8 ((c &&& 0xFF) ^^^ (c &&& ~~~0xFF)) := by rw [byte_xor_aboveByte]
    _ = crcShift 8 (c &&& 0xFF) ^^^ ((c &&& ~~~0xFF) >>> 8) := crcShift_xor 8 hlow _
    _ = crcShift 8 (c &&& 0xFF) ^^^ (c >>> 8) := by rw [aboveByte_ushiftRight]

/-- A byte has no bits above the lowest eight. -/
theorem xor_byte_ushiftRight (r : BitVec 32) (b : Byte) : (r ^^^ b.setWidth 32) >>> 8 = r >>> 8 := by
  have hb : b.setWidth 32 >>> 8 = 0#32 := by
    apply BitVec.eq_of_toNat_eq
    rw [BitVec.toNat_ushiftRight, BitVec.toNat_setWidth_of_le (by decide), Nat.shiftRight_eq_zero _ _ b.isLt,
      BitVec.toNat_zero]
  rw [BitVec.ushiftRight_xor_distrib, hb, BitVec.xor_zero]

/-- `crc_step` by table: the byte only enters the row's index. -/
theorem crcStep_table (c : BitVec 32) (b : Byte) :
    crcStep c b = (crcShift 8 (((c ^^^ 0xFFFFFFFF) ^^^ b.setWidth 32) &&& 0xFF) ^^^ ((c ^^^ 0xFFFFFFFF) >>> 8)) ^^^
      0xFFFFFFFF := by
  rw [crcStep, crcShift_eight_table, xor_byte_ushiftRight]

/-- Settles O56: the eight shifts written out, the table by `crcStep_table`, and R286's example by evaluation. -/
theorem crcTableForm : Obligations.CrcTableForm :=
  ⟨fun c b => ⟨congrArg (· ^^^ 0xFFFFFFFF) (crcShift_eight _), crcStep_table c b⟩, by decide⟩

end Sys2Proof.Machine
end

section
/-! The zlib container (46_zlib_wrapper R301 to R305): what `ZLIB_HDR` does at each of its tests, `ZLIB_TRAILER`, and the
list of the accepted prefixes, built from the one `FCHECK` that fits each `CINFO` and `FLEVEL`. -/

namespace Sys2Proof.Machine

/-! ### `ZLIB_HDR` (R301) -/

/-- `CM`, the low nibble of `CMF`. -/
theorem extractLsb'_low_eq_eight_iff (cmf : Byte) : cmf.extractLsb' 0 4 = 8 ↔ cmf.toNat % 16 = 8 := by
  simp [← BitVec.toNat_inj, BitVec.extractLsb'_toNat]

/-- `CINFO`, the high nibble of `CMF`. -/
theorem toNat_extractLsb'_high (cmf : Byte) : (cmf.extractLsb' 4 4).toNat = cmf.toNat / 16 := by
  rw [BitVec.extractLsb'_toNat, Nat.shiftRight_eq_div_pow]
  omega

theorem extractLsb'_high_add_eight (cmf : Byte) :
    cmf.extractLsb' 4 4 + 8 = BitVec.ofNat 4 (cmf.toNat / 16 + 8) := by
  apply BitVec.eq_of_toNat_eq
  rw [BitVec.toNat_add, toNat_extractLsb'_high, BitVec.toNat_ofNat]
  rfl

/-- The four tests of R301, all passed: `CM`, `CINFO`, the modulo-31 test, `FDICT`. -/
def ZlibHdrAccepted (cmf flg : Byte) : Prop :=
  cmf.toNat % 16 = 8 ∧ cmf.toNat / 16 ≤ 7 ∧ (cmf.toNat * 256 + flg.toNat) % 31 = 0 ∧ flg.getLsbD 5 = false

/-- R301 on the values of the two nibbles. -/
theorem exec_zlibHdr_eq (cmf flg : Byte) (s : State) :
    exec (.zlibHdr cmf flg) s =
      if cmf.toNat % 16 ≠ 8 then .next (enterError .zlibMethod s)
      else if 7 < cmf.toNat / 16 then .next (enterError .zlibWindow s)
      else if (cmf.toNat * 256 + flg.toNat) % 31 ≠ 0 then .next (enterError .zlibFcheck s)
      else if flg.getLsbD 5 then .next (enterError .zlibPresetDict s)
      else .next { s with
        pc := alignUp s.pc + 16, wbits := BitVec.ofNat 4 (cmf.toNat / 16 + 8), phase := .blockHdr } := by
  simp only [exec, execZlibHdr, commit, Ne, extractLsb'_low_eq_eight_iff, toNat_extractLsb'_high,
    extractLsb'_high_add_eight]
  split_ifs <;> rfl

section
variable {cmf flg : Byte} (s : State)

theorem exec_zlibHdr_of_method (hm : cmf.toNat % 16 ≠ 8) :
    exec (.zlibHdr cmf flg) s = .next (enterError .zlibMethod s) := by
  rw [exec_zlibHdr_eq, if_pos hm]

theorem exec_zlibHdr_of_window (hm : cmf.toNat % 16 = 8) (hw : 7 < cmf.toNat / 16) :
    exec (.zlibHdr cmf flg) s = .next (enterError .zlibWindow s) := by
  rw [exec_zlibHdr_eq, if_neg (not_not.2 hm), if_pos hw]

theorem exec_zlibHdr_of_check (hm : cmf.toNat % 16 = 8) (hw : cmf.toNat / 16 ≤ 7)
    (hc : (cmf.toNat * 256 + flg.toNat) % 31 ≠ 0) :
    exec (.zlibHdr cmf flg) s = .next (enterError .zlibFcheck s) := by
  rw [exec_zlibHdr_eq, if_neg (not_not.2 hm), if_neg hw.not_gt, if_pos hc]

theorem exec_zlibHdr_of_dict (hm : cmf.toNat % 16 = 8) (hw : cmf.toNat / 16 ≤ 7)
    (hc : (cmf.toNat * 256 + flg.toNat) % 31 = 0) (hd : flg.getLsbD 5 = true) :
    exec (.zlibHdr cmf flg) s = .next (enterError .zlibPresetDict s) := by
  rw [exec_zlibHdr_eq, if_neg (not_not.2 hm), if_neg hw.not_gt, if_neg (not_not.2 hc), if_pos hd]

theorem exec_zlibHdr_of_accepted (h : ZlibHdrAccepted cmf flg) :
    exec (.zlibHdr cmf flg) s = .next { s with
      pc := alignUp s.pc + 16, wbits := BitVec.ofNat 4 (cmf.toNat / 16 + 8), phase := .blockHdr } := by
  obtain ⟨hm, hw, hc, hd⟩ := h
  rw [exec_zlibHdr_eq, if_neg (not_not.2 hm), if_neg hw.not_gt, if_neg (not_not.2 hc), if_neg (Bool.eq_false_iff.1 hd)]

/-- The only test with another class comes after the modulo-31 test (R305). -/
theorem exec_zlibHdr_of_not_accepted (h : ¬ ZlibHdrAccepted cmf flg) :
    ∃ e, exec (.zlibHdr cmf flg) s = .next (enterError e s) ∧
      (subClass e = .malformedHeader ∨ (cmf.toNat * 256 + flg.toNat) % 31 = 0) := by
  by_cases hm : cmf.toNat % 16 = 8
  · rcases Nat.lt_or_ge 7 (cmf.toNat / 16) with hw | hw
    · exact ⟨_, exec_zlibHdr_of_window s hm hw, .inl rfl⟩
    · by_cases hc : (cmf.toNat * 256 + flg.toNat) % 31 = 0
      · have hd : flg.getLsbD 5 = true := Bool.eq_true_of_not_eq_false fun hd => h ⟨hm, hw, hc, hd⟩
        exact ⟨_, exec_zlibHdr_of_dict s hm hw hc hd, .inr hc⟩
      · exact ⟨_, exec_zlibHdr_of_check s hm hw hc, .inl rfl⟩
  · exact ⟨_, exec_zlibHdr_of_method s hm, .inl rfl⟩

theorem exec_zlibHdr_malformed (hc : (cmf.toNat * 256 + flg.toNat) % 31 ≠ 0) :
    ∃ e, exec (.zlibHdr cmf flg) s = .next (enterError e s) ∧ subClass e = .malformedHeader := by
  obtain ⟨e, he, hclass⟩ := exec_zlibHdr_of_not_accepted s fun ⟨_, _, hmet, _⟩ => hc hmet
  exact ⟨e, he, hclass.resolve_right hc⟩

theorem exec_zlibHdr_blockHdr_iff :
    (∃ t, exec (.zlibHdr cmf flg) s = .next t ∧ t.phase = .blockHdr) ↔ ZlibHdrAccepted cmf flg := by
  refine ⟨fun ⟨t, ht, hph⟩ => ?_, fun h => ⟨_, exec_zlibHdr_of_accepted s h, rfl⟩⟩
  by_contra h
  obtain ⟨e, he, -⟩ := exec_zlibHdr_of_not_accepted s h
  cases he.symm.trans ht
  simp at hph

end

/-- Settles O11: one lemma for each outcome of the four tests. -/
theorem zlibHeader : Obligations.ZlibHeader := fun s _ _ =>
  ⟨fun hm hw hc hd => exec_zlibHdr_of_accepted s ⟨hm, hw, hc, hd⟩, exec_zlibHdr_of_method s, exec_zlibHdr_of_window s,
    exec_zlibHdr_of_check s, exec_zlibHdr_of_dict s⟩

/-! ### `ZLIB_TRAILER` (R303) -/

theorem eq_adler32_iff (v : BitVec 32) (s : State) :
    v = adler32 s ↔ v.toNat = s.adlerB.toNat * 65536 + s.adlerA.toNat := by
  rw [← BitVec.toNat_inj, adler32_toNat, show 2 ^ 16 = 65536 from rfl]

theorem exec_zlibTrailer_of_eq {v : BitVec 32} {s : State} (h : v = adler32 s) :
    exec (.zlibTrailer v) s = .next { s with pc := alignUp s.pc + 32, phase := .done } := by
  rw [exec, execZlibTrailer]
  exact commit_done (if_neg (not_not.2 h))

theorem exec_zlibTrailer_of_ne {v : BitVec 32} {s : State} (h : v ≠ adler32 s) :
    exec (.zlibTrailer v) s = .next (enterError .adler32 s) := by
  rw [exec, execZlibTrailer]
  exact commit_raise (if_pos h)

/-- Settles O13: the register pair as one number by `eq_adler32_iff`. -/
theorem zlibTrailer : Obligations.ZlibTrailer := fun s v =>
  ⟨fun h => exec_zlibTrailer_of_eq ((eq_adler32_iff v s).2 h),
    fun h => exec_zlibTrailer_of_ne ((eq_adler32_iff v s).not.2 h)⟩

/-! ### The accepted prefixes (R305) -/

/-- The tests of R301 on the number `CMF * 256 + FLG`. -/
def zlibPrefixAccepted (w : Nat) : Bool :=
  decide (w / 256 % 16 = 8 ∧ w / 4096 ≤ 7 ∧ w % 31 = 0 ∧ w / 32 % 2 = 0)

theorem toNat_ofNat_cmf {w : Nat} (h : w < 65536) : (BitVec.ofNat 8 (w / 256)).toNat = w / 256 := by
  rw [BitVec.toNat_ofNat]
  omega

theorem toNat_ofNat_cmf_flg {w : Nat} (h : w < 65536) :
    (BitVec.ofNat 8 (w / 256)).toNat * 256 + (BitVec.ofNat 8 w).toNat = w := by
  rw [toNat_ofNat_cmf h, BitVec.toNat_ofNat]
  omega

/-- `FDICT` as a bit of `FLG`. -/
theorem ofNat_noDict_iff (w : Nat) : (BitVec.ofNat 8 w).getLsbD 5 = false ↔ w / 32 % 2 = 0 := by
  rw [BitVec.getLsbD_ofNat, Nat.testBit_eq_decide_div_mod_eq]
  simp

theorem zlibHdrAccepted_ofNat_iff {w : Nat} (h : w < 65536) :
    ZlibHdrAccepted (BitVec.ofNat 8 (w / 256)) (BitVec.ofNat 8 w) ↔ zlibPrefixAccepted w = true := by
  have hwindow : w / 256 / 16 = w / 4096 := Nat.div_div_eq_div_mul w 256 16
  rw [zlibPrefixAccepted, decide_eq_true_iff, ZlibHdrAccepted, toNat_ofNat_cmf_flg h, toNat_ofNat_cmf h, hwindow,
    ofNat_noDict_iff]

/-- The header number with `CM = 8`, `FDICT = 0` and `FCHECK = 0`. -/
def zlibPrefixBase (cinfo flevel : Nat) : Nat := cinfo * 4096 + 2048 + flevel * 64

/-- The accepted prefixes, in increasing order: no base is divisible by 31 itself, so `FCHECK` fills it
up to the next multiple in just one way. -/
def acceptedPrefixes : List Nat :=
  (List.range 8).flatMap fun cinfo => (List.range 4).map fun flevel =>
    zlibPrefixBase cinfo flevel + (31 - zlibPrefixBase cinfo flevel % 31)

theorem zlibPrefixBase_mod_ne_zero : ∀ cinfo < 8, ∀ flevel < 4, zlibPrefixBase cinfo flevel % 31 ≠ 0 := by
  decide

theorem zlibPrefixAccepted_of_mem : ∀ w ∈ acceptedPrefixes, w < 65536 ∧ zlibPrefixAccepted w = true := by
  decide

theorem mem_acceptedPrefixes {w : Nat} (h : zlibPrefixAccepted w = true) : w ∈ acceptedPrefixes := by
  obtain ⟨hm, hw, hc, hd⟩ := of_decide_eq_true h
  have hcinfo : w / 4096 < 8 := by omega
  have hflevel : w / 64 % 4 < 4 := Nat.mod_lt _ (by decide)
  have hbase : w = zlibPrefixBase (w / 4096) (w / 64 % 4) + w % 32 := by
    have h64 : w / 32 / 2 = w / 64 := Nat.div_div_eq_div_mul w 32 2
    have h256 : w / 64 / 4 = w / 256 := Nat.div_div_eq_div_mul w 64 4
    have h4096 : w / 256 / 16 = w / 4096 := Nat.div_div_eq_div_mul w 256 16
    rw [zlibPrefixBase]
    omega
  have hne := zlibPrefixBase_mod_ne_zero _ hcinfo _ hflevel
  have hfill : zlibPrefixBase (w / 4096) (w / 64 % 4) + (31 - zlibPrefixBase (w / 4096) (w / 64 % 4) % 31) = w := by
    generalize zlibPrefixBase (w / 4096) (w / 64 % 4) = b at hbase hne
    omega
  exact List.mem_flatMap.2 ⟨_, List.mem_range.2 hcinfo, List.mem_map.2 ⟨_, List.mem_range.2 hflevel, hfill⟩⟩

/-- Both lists are increasing and have the same members. -/
theorem filter_zlibPrefixAccepted : (List.range 65536).filter zlibPrefixAccepted = acceptedPrefixes := by
  have hsorted : acceptedPrefixes.Pairwise (· < ·) := by decide
  refine (List.pairwise_lt_range.filter _).eq_of_mem_iff hsorted fun w => ?_
  rw [List.mem_filter, List.mem_range]
  exact ⟨fun h => mem_acceptedPrefixes h.2, zlibPrefixAccepted_of_mem w⟩

theorem countP_zlibPrefixAccepted : (List.range 65536).countP zlibPrefixAccepted = 32 := by
  rw [List.countP_eq_length_filter, filter_zlibPrefixAccepted]
  rfl

theorem filter_zlibPrefixAccepted_wbits15 :
    (List.range 65536).filter (fun w => zlibPrefixAccepted w && decide (w / 4096 + 8 = 15)) =
      [0x7801, 0x785E, 0x789C, 0x78DA] := by
  simp only [Bool.and_comm (zlibPrefixAccepted _)]
  rw [← List.filter_filter, filter_zlibPrefixAccepted]
  decide

/-- Settles O12: the header's outcomes on the two bytes of `w`, and the prefixes listed by `filter_zlibPrefixAccepted`. -/
theorem zlibPrefixes : Obligations.ZlibPrefixes := by
  refine ⟨fun w hw s hc => ?_, fun w hw s => ?_, countP_zlibPrefixAccepted, filter_zlibPrefixAccepted_wbits15⟩
  · obtain ⟨e, he, hclass⟩ := exec_zlibHdr_malformed s ((toNat_ofNat_cmf_flg hw).symm ▸ hc)
    exact ⟨_, he, rfl, hclass⟩
  · exact (exec_zlibHdr_blockHdr_iff s).trans (zlibHdrAccepted_ofNat_iff hw)

end Sys2Proof.Machine
end

section
/-! The gzip container (47_gzip_wrapper R316 to R325): the fixed header, the order of the optional parts, what each part
does, and the trailer with its flipped bits. -/

namespace Sys2Proof.Machine

/-! ### `GZIP_HDR` (R316) -/

/-- R316: the magic is tested before the method. -/
theorem exec_gzipHdr_eq (id1 id2 cm flg : Byte) (mtime : BitVec 32) (xfl os : Byte) (s : State) :
    exec (.gzipHdr id1 id2 cm flg mtime xfl os) s =
      if id1 ≠ 0x1F ∨ id2 ≠ 0x8B then .next (enterError .gzipMagic s)
      else if cm ≠ 8 then .next (enterError .gzipMethod s)
      else .next { s with pc := alignUp s.pc + 80, gflg := flg, phase := gzAfterHdr flg } := by
  simp only [exec, execGzipHdr, commit]
  split_ifs <;> rfl

/-- Settles O14: one branch of `exec_gzipHdr_eq` for each outcome. -/
theorem gzipHeader : Obligations.GzipHeader := by
  intro s id1 id2 cm flg xfl os mtime
  rw [exec_gzipHdr_eq]
  have magic (h1 : id1 = 0x1F) (h2 : id2 = 0x8B) : ¬ (id1 ≠ 0x1F ∨ id2 ≠ 0x8B) :=
    fun h => h.elim (· h1) (· h2)
  refine ⟨fun h1 h2 hm => ?_, fun h => if_pos h, fun h1 h2 hm => ?_⟩
  · rw [if_neg (magic h1 h2), if_neg (not_not.2 hm)]
  · rw [if_neg (magic h1 h2), if_pos hm]
    rfl

/-! ### The order of the parts (R317) -/

/-- The first phase of a list whose presence bit is set. -/
def firstPresent (parts : List (Phase × Bool)) : Phase := ((parts.find? (·.2)).map (·.1)).getD .blockHdr

theorem firstPresent_cons (p : Phase) (present : Bool) (parts : List (Phase × Bool)) :
    firstPresent ((p, present) :: parts) = if present then p else firstPresent parts := by
  cases present <;> rfl

/-- Settles O15: `gz_next` tests one presence bit and goes on with the rest of the order, as `firstPresent_cons` says. -/
theorem gzipPartOrder : Obligations.GzipPartOrder := by
  intro flg order next
  have comment : gzAfterComment flg = firstPresent (order.drop 3) :=
    (firstPresent_cons .gzipHcrc _ [(.blockHdr, true)]).symm
  have name : gzAfterName flg = firstPresent (order.drop 2) := by
    rw [gzAfterName, comment]
    exact (firstPresent_cons ..).symm
  have extra : gzAfterExtra flg = firstPresent (order.drop 1) := by
    rw [gzAfterExtra, name]
    exact (firstPresent_cons ..).symm
  have hdr : gzAfterHdr flg = firstPresent order := by
    rw [gzAfterHdr, extra]
    exact (firstPresent_cons ..).symm
  exact ⟨hdr, extra, name, comment⟩

/-! ### The optional parts (R318 to R322) -/

theorem extraStep_of_zero {s : State} (h : s.xlen = 0) : extraStep s = { s with phase := gzAfterExtra s.gflg } :=
  if_pos h

theorem extraStep_of_ne_zero {s : State} (h : s.xlen ≠ 0) : extraStep s = s := if_neg h

theorem exec_gzipExtra_length (n : BitVec 16) (s : State) :
    exec (.gzipExtra (.lengthField n)) s =
      .next (extraStep { s with pc := alignUp s.pc + 16, xlen := n, xlenValid := true }) := rfl

theorem exec_gzipExtra_payload (b : Byte) (s : State) :
    exec (.gzipExtra (.payload b)) s =
      .next (extraStep { s with pc := alignUp s.pc + 8, xlen := s.xlen - 1 }) := rfl

theorem exec_gzipName_eq (b : Byte) (s : State) :
    exec (.gzipName b) s =
      .next { s with pc := alignUp s.pc + 8, phase := if b = 0 then gzAfterName s.gflg else s.phase } := rfl

theorem exec_gzipComment_eq (b : Byte) (s : State) :
    exec (.gzipComment b) s =
      .next { s with pc := alignUp s.pc + 8, phase := if b = 0 then gzAfterComment s.gflg else s.phase } := rfl

/-- Settles O16: whether payload bytes are left after the length or the byte, whether the byte ends its string. -/
theorem gzipParts : Obligations.GzipParts := by
  intro s n v b
  refine ⟨fun hn => ?_, fun hn => ?_, fun hx => ?_, fun hx => ?_, fun hb => ?_, fun hb => ?_, rfl⟩
  · rw [exec_gzipExtra_length, extraStep_of_ne_zero hn]
  · subst hn
    rw [exec_gzipExtra_length, extraStep_of_zero rfl]
  · have hne : s.xlen - 1 ≠ 0 := by bv_omega
    have hsub : s.xlen - 1 = BitVec.ofNat 16 (s.xlen.toNat - 1) := by bv_omega
    rw [exec_gzipExtra_payload, extraStep_of_ne_zero hne, hsub]
  · have hzero : s.xlen - 1 = 0 := by bv_omega
    rw [exec_gzipExtra_payload, hzero, extraStep_of_zero rfl]
  · rw [exec_gzipName_eq, exec_gzipComment_eq, if_neg hb, if_neg hb]
    exact ⟨rfl, rfl⟩
  · rw [exec_gzipName_eq, exec_gzipComment_eq, if_pos hb, if_pos hb]
    exact ⟨rfl, rfl⟩

/-! ### `GZIP_TRAILER` (R323, R288) -/

theorem eq_sizeField_iff (n : BitVec 32) (s : State) : n = sizeField s ↔ n.toNat = s.total % 2 ^ 32 := by
  rw [← BitVec.toNat_inj, sizeField, BitVec.toNat_ofNat]

/-- R323: the CRC is compared before the size, and neither without `CHECK_CRC`. -/
theorem exec_gzipTrailer_eq (c n : BitVec 32) (s : State) :
    exec (.gzipTrailer c n) s =
      if s.checkCrc = true ∧ c ≠ s.crc then .next (enterError .crc32 s)
      else if s.checkCrc = true ∧ n ≠ sizeField s then .next (enterError .isize s)
      else .next { s with pc := alignUp s.pc + 64, phase := .done } := by
  simp only [exec, execGzipTrailer, commit, Bool.and_eq_true, decide_eq_true_eq]
  split_ifs <;> rfl

section
variable {s : State} {c n : BitVec 32}

theorem exec_gzipTrailer_of_lenient (h : s.checkCrc = false) (c n : BitVec 32) :
    exec (.gzipTrailer c n) s = .next { s with pc := alignUp s.pc + 64, phase := .done } := by
  simp [exec_gzipTrailer_eq, h]

theorem exec_gzipTrailer_of_match (hc : c = s.crc) (hn : n = sizeField s) :
    exec (.gzipTrailer c n) s = .next { s with pc := alignUp s.pc + 64, phase := .done } := by
  simp [exec_gzipTrailer_eq, hc, hn]

theorem exec_gzipTrailer_of_crc_ne (h : s.checkCrc = true) (hc : c ≠ s.crc) :
    exec (.gzipTrailer c n) s = .next (enterError .crc32 s) := by
  rw [exec_gzipTrailer_eq, if_pos ⟨h, hc⟩]

theorem exec_gzipTrailer_of_size_ne (h : s.checkCrc = true) (hc : c = s.crc) (hn : n ≠ sizeField s) :
    exec (.gzipTrailer c n) s = .next (enterError .isize s) := by
  rw [exec_gzipTrailer_eq, if_neg fun hne => hne.2 hc, if_pos ⟨h, hn⟩]

end

/-- Settles O17: one lemma for each outcome, the size as a number by `eq_sizeField_iff`. -/
theorem gzipTrailer : Obligations.GzipTrailer := by
  intro s c n
  simp only [Ne, ← eq_sizeField_iff]
  refine ⟨?_, exec_gzipTrailer_of_crc_ne, exec_gzipTrailer_of_size_ne⟩
  rintro (h | ⟨hc, hn⟩)
  · exact exec_gzipTrailer_of_lenient h c n
  · exact exec_gzipTrailer_of_match hc hn

/-! ### Flipped trailer bits (R325) -/

theorem xor_ofNat_two_pow_ne (x : BitVec 32) {k : Nat} (hk : k < 32) : x ^^^ BitVec.ofNat 32 (2 ^ k) ≠ x := by
  intro h
  have hbit : BitVec.ofNat 32 (2 ^ k) = 0#32 := (BitVec.xor_right_inj x).1 (h.trans BitVec.xor_zero.symm)
  have hval := congrArg BitVec.toNat hbit
  rw [BitVec.toNat_ofNat, Nat.mod_eq_of_lt (Nat.pow_lt_pow_right (by decide) hk)] at hval
  exact absurd hval (Nat.two_pow_pos k).ne'

/-- Settles O18: the flipped word differs from the one it is compared with, and nothing is compared without `CHECK_CRC`. -/
theorem trailerBitFlips : Obligations.TrailerBitFlips := by
  intro s c n hc hn k hk c' n'
  have not_both {p : Prop} (ht : s.checkCrc = true) (hf : s.checkCrc = false) : p := nomatch ht.symm.trans hf
  rcases Bool.eq_false_or_eq_true s.checkCrc with hcheck | hcheck
  · rcases Nat.lt_or_ge k 32 with hlow | hhigh
    · have hflip : c' ≠ s.crc := by
        rw [← hc, show c' = c ^^^ BitVec.ofNat 32 (2 ^ k) from if_pos hlow]
        exact xor_ofNat_two_pow_ne c hlow
      exact ⟨_, exec_gzipTrailer_of_crc_ne hcheck hflip, rfl,
        fun _ => ⟨rfl, rfl, fun _ => rfl, fun h => absurd hlow h.not_gt⟩, not_both hcheck⟩
    · have hsame : c' = s.crc := (if_neg hhigh.not_gt).trans hc
      have hflip : n' ≠ sizeField s := by
        rw [← (eq_sizeField_iff n s).2 hn,
          show n' = n ^^^ BitVec.ofNat 32 (2 ^ (k - 32)) from if_neg hhigh.not_gt]
        exact xor_ofNat_two_pow_ne n (by omega)
      exact ⟨_, exec_gzipTrailer_of_size_ne hcheck hsame hflip, rfl,
        fun _ => ⟨rfl, rfl, fun h => absurd h hhigh.not_gt, fun _ => rfl⟩, not_both hcheck⟩
  · exact ⟨_, exec_gzipTrailer_of_lenient hcheck c' n', rfl, (not_both · hcheck), fun _ => rfl⟩

end Sys2Proof.Machine
end

section
/-! What an element leaves as it is (R62, R63): the rules that keep a part of the state, and the frame of `exec`. -/

namespace Sys2Proof.Machine

/-- The rule leaves `f` of the state as it is where it fires. -/
def Keeps {α : Type} (f : State → α) (r : Rule) : Prop := ∀ s t, r s = .done t → f t = f s

section
variable {α : Type} {f : State → α}

/-- A hold and a fault entry write nothing `f` looks at, so committing a rule that keeps `f` keeps it. -/
theorem commit_keeps {r : Rule} {s t : State} (h : commit r s = .next t) (herr : ∀ e s, f (enterError e s) = f s)
    (hr : Keeps f r) : f t = f s := by
  rcases commit_next h with hdone | ⟨-, rfl⟩ | ⟨e, -, rfl⟩
  · exact hr s t hdone
  · rfl
  · exact herr e s

theorem keeps_done {g : State → State} (h : ∀ s, f (g s) = f s) : Keeps f fun s => .done (g s) := by
  rintro s _ ⟨⟩
  exact h s

/-- A test chooses between two next states. -/
theorem keeps_done_ite {p : State → Prop} [DecidablePred p] {g k : State → State} (hg : ∀ s, f (g s) = f s)
    (hk : ∀ s, f (k s) = f s) : Keeps f fun s => .done (if p s then g s else k s) :=
  keeps_done fun s => by
    split
    · exact hg s
    · exact hk s

/-- A fault, raised on a test, before a rule that keeps `f`. -/
theorem Keeps.guard {p : State → Prop} [DecidablePred p] {e : ErrSub} {r : Rule} (hr : Keeps f r) :
    Keeps f fun s => if p s then .raise e else r s := by
  intro s t h
  dsimp only at h
  split at h
  · cases h
  · exact hr s t h

theorem Keeps.andThen {r q : Rule} (hr : Keeps f r) (hq : Keeps f q) : Keeps f fun s => (r s).andThen q := by
  intro s t h
  dsimp only at h
  cases hs : r s with
  | done u =>
    rw [hs] at h
    exact (hq u t h).trans (hr s u hs)
  | hold | raise | stop =>
    rw [hs] at h
    cases h

end

/-- What the emission of a byte and the zlib header write and no other element does: OUT, WIN and WBITS. -/
def windowSide (s : State) : List Byte × Memory × BitVec 4 := (s.output, s.win, s.wbits)

theorem codedLength_keeps (sym ex : Nat) (v : BitVec 4) (n : Nat) : Keeps windowSide (codedLength sym ex v n) := by
  intro s t h
  rcases appendLengths_cases v n (advance (clBits sym s + ex) s) with ⟨-, e⟩ | ⟨-, e⟩ | ⟨-, e⟩
  · cases e.symm.trans h
  · cases e.symm.trans h
    rfl
  · cases e.symm.trans h
    rfl

theorem lengthRule_keeps (c ex len : Nat) (d : DistPart) : Keeps windowSide (lengthRule c ex len d) := by
  intro s t h
  rcases lengthRule_cases c ex len d s with ⟨n, dist, e⟩ | e
  · cases e.symm.trans h
    rfl
  · cases e.symm.trans h

theorem distanceRule_keeps (d ex dist : Nat) : Keeps windowSide (distanceRule d ex dist) := keeps_done fun _ => rfl

theorem windowSide_extraStep (s : State) : windowSide (extraStep s) = windowSide s := by
  unfold extraStep
  split <;> rfl

/-- `Emit` (R161) does not write WBITS. -/
theorem emit_keeps_wbits (b : Byte) : Keeps State.wbits (emit b) := by
  intro s t h
  rcases emit_eq b s with ⟨-, e⟩ | ⟨-, e⟩
  · cases e.symm.trans h
    rfl
  · cases e.symm.trans h

theorem execLit_wbits {b : Byte} {s t : State} (h : execLit b s = .next t) : t.wbits = s.wbits :=
  commit_keeps h (fun _ _ => rfl) fun s => emit_keeps_wbits b (advance (llBits b.toNat s) s)

theorem execStoredByte_wbits {b : Byte} {s t : State} (h : execStoredByte b s = .next t) : t.wbits = s.wbits :=
  commit_keeps h (fun _ _ => rfl) <| .andThen (r := fun s => emit b (advance 8 s))
    (fun s => emit_keeps_wbits b (advance 8 s)) (keeps_done fun _ => rfl)

theorem execZlibHdr_output_win {cmf flg : Byte} {s t : State} (h : execZlibHdr cmf flg s = .next t) :
    (t.output, t.win) = (s.output, s.win) :=
  commit_keeps (f := fun s => (s.output, s.win)) h (fun _ _ => rfl)
    (.guard <| .guard <| .guard <| .guard <| keeps_done fun _ => rfl)

/-- The elements but LIT, STORED_BYTE and ZLIB_HDR leave OUT, WIN and WBITS as they are. After the elements of their own
shape come, in the order of the table, the code lengths, the back-references and the distances. -/
theorem exec_windowSide {i : Instr} {s t : State} (hlit : ∀ b, i ≠ .lit b) (hbyte : ∀ b, i ≠ .storedByte b)
    (hhdr : ∀ cmf flg, i ≠ .zlibHdr cmf flg) (h : exec i s = .next t) : windowSide t = windowSide s := by
  have herr (e : ErrSub) (s : State) : windowSide (enterError e s) = windowSide s := rfl
  cases i <;> simp only [exec] at h
  case lit b => exact absurd rfl (hlit b)
  case storedByte b => exact absurd rfl (hbyte b)
  case zlibHdr cmf flg => exact absurd rfl (hhdr cmf flg)
  case zlibTrailer | storedHdr => exact commit_keeps h herr (.guard <| keeps_done fun _ => rfl)
  case gzipHdr | gzipTrailer => exact commit_keeps h herr (.guard <| .guard <| keeps_done fun _ => rfl)
  case gzipExtra part =>
    cases part <;> exact commit_keeps h herr (keeps_done fun _ => windowSide_extraStep _)
  case dynCllen => exact commit_keeps h herr (keeps_done_ite (fun _ => rfl) fun _ => rfl)
  case clRep16 => exact commit_keeps h herr (.guard fun s => codedLength_keeps 16 2 _ _ s)
  case gzipName | gzipComment | gzipHcrc | blkStored | blkFixed | blkDynamic | blkReserved | dynHdr | eob | ll286 |
      ll287 | dist30 | dist31 =>
    cases h
    rfl
  iterate 18 exact commit_keeps h herr (codedLength_keeps _ _ _ _)
  iterate 29 exact commit_keeps h herr (lengthRule_keeps _ _ _ _)
  iterate 30 exact commit_keeps h herr (distanceRule_keeps _ _ _)

theorem exec_output_win {i : Instr} {s t : State} (hi : ∀ b, i ≠ .lit b ∧ i ≠ .storedByte b)
    (h : exec i s = .next t) : (t.output, t.win) = (s.output, s.win) := by
  by_cases hhdr : ∃ cmf flg, i = .zlibHdr cmf flg
  · obtain ⟨cmf, flg, rfl⟩ := hhdr
    exact execZlibHdr_output_win h
  · have hside := exec_windowSide (fun b => (hi b).1) (fun b => (hi b).2) (fun _ _ e => hhdr ⟨_, _, e⟩) h
    exact congrArg (fun side => (side.1, side.2.1)) hside

theorem exec_wbits {i : Instr} {s t : State} (hhdr : ∀ cmf flg, i ≠ .zlibHdr cmf flg) (h : exec i s = .next t) :
    t.wbits = s.wbits := by
  by_cases hlit : ∃ b, i = .lit b
  · obtain ⟨b, rfl⟩ := hlit
    exact execLit_wbits h
  by_cases hbyte : ∃ b, i = .storedByte b
  · obtain ⟨b, rfl⟩ := hbyte
    exact execStoredByte_wbits h
  · have hside := exec_windowSide (fun _ e => hlit ⟨_, e⟩) (fun _ e => hbyte ⟨_, e⟩) hhdr h
    exact congrArg (·.2.2) hside

/-- Settles O48: the cases of `did_exec`; which elements write OUT, WIN and WBITS by `exec_output_win` and `exec_wbits`. -/
theorem elementFrame : Obligations.ElementFrame := by
  intro i s t h
  have quiet (hi : ∀ b, i ≠ .lit b ∧ i ≠ .storedByte b) :
      t.output = s.output ∧ ∀ a, t.win.read a = s.win.read a := by
    obtain ⟨houtput, hwin⟩ := Prod.mk.inj (exec_output_win hi h)
    exact ⟨houtput, fun a => by rw [hwin]⟩
  have wbits (hhdr : ∀ cmf flg, i ≠ .zlibHdr cmf flg) : t.wbits = s.wbits := exec_wbits hhdr h
  cases did_exec i s t h with
  | held ht =>
    subst ht
    exact ⟨rfl, rfl, rfl, rfl, rfl, rfl, rfl, rfl, rfl, Nat.le_refl _, .inl rfl, fun _ _ => rfl, quiet, wbits⟩
  | raised e _ ht =>
    subst ht
    exact ⟨rfl, rfl, rfl, rfl, rfl, rfl, rfl, rfl, rfl, Nat.le_refl _, .inl rfl, fun _ _ => rfl, quiet, wbits⟩
  | emittedByte b n _ _ _ ht =>
    subst ht
    exact ⟨rfl, rfl, rfl, rfl, rfl, rfl, rfl, rfl, rfl, Nat.le_add_right _ _, .inr ⟨b, rfl⟩, (emitted_win_read b s).2,
      quiet, wbits⟩
  | moved q =>
    exact ⟨q.input, q.inEos, q.mode, q.checkCrc, q.cfgMode, q.cfgWindowBits, q.cfgCheckCrc, q.sinkReady, q.pending,
      q.pc, .inl q.output, fun _ _ => by rw [q.win], quiet, wbits⟩

end Sys2Proof.Machine
end

section
/-! The steps of the host, the source and the sink (R341 to R349), each rule once where it is enabled and once where it
is not. -/

namespace Sys2Proof.Machine

/-! ### start (R341 to R343) -/

theorem cfgInvalid_iff (s : State) :
    cfgInvalid s = true ↔ s.cfgMode = 3 ∨ (s.cfgMode = 0 ∧ s.cfgWindowBits.toNat < 8) := by simp [cfgInvalid]

theorem cfgInvalid_eq_false_of_wrapped {s : State} (h : s.cfgMode = 1 ∨ s.cfgMode = 2) : cfgInvalid s = false := by
  rcases h with h | h <;> simp [cfgInvalid, h]

theorem hostStart_of_busy {s : State} (h : busy s = true) : hostStart s = s := by simp [hostStart, h]

theorem hostStart_of_cfgInvalid {s : State} (h : cfgInvalid s = true) : hostStart s = s := by simp [hostStart, h]

/-- An enabled `start` in the mode the port names (R341). -/
theorem hostStart_of_mode {s : State} {m : Mode} (hb : busy s = false) (hc : cfgInvalid s = false)
    (hm : modeOf s.cfgMode = m) :
    hostStart s = { resetCore s with
      mode := m, checkCrc := s.cfgCheckCrc, wbits := entryWbits m s.cfgWindowBits, phase := entryPhase m } := by
  subst hm
  simp [hostStart, hb, hc]

/-- Settles O2: `hostStart_of_mode` in the three modes, whose configurations are legal. -/
theorem startOperation : Obligations.StartOperation := by
  intro s hb
  refine ⟨fun hm hw => ?_, fun hm => ?_, fun hm => ?_⟩
  · have hc : cfgInvalid s = false := by simp [cfgInvalid, hm, hw]
    exact congrArg Host.Outcome.next (hostStart_of_mode (m := .raw) hb hc (by simp [modeOf, hm]))
  · have hc := cfgInvalid_eq_false_of_wrapped (.inl hm)
    exact congrArg Host.Outcome.next (hostStart_of_mode (m := .zlib) hb hc (by simp [modeOf, hm]))
  · have hc := cfgInvalid_eq_false_of_wrapped (.inr hm)
    exact congrArg Host.Outcome.next (hostStart_of_mode (m := .gzip) hb hc (by simp [modeOf, hm]))

/-- Settles O3: busy and an illegal configuration each refuse `start`; the ports alone decide the latter. -/
theorem startRefused : Obligations.StartRefused := fun s =>
  ⟨fun h => congrArg Host.Outcome.next (hostStart_of_busy h), cfgInvalid_iff s,
    fun h => congrArg Host.Outcome.next (hostStart_of_cfgInvalid h), cfgInvalid_eq_false_of_wrapped⟩

/-! ### abort (R345) -/

theorem hostAbort_of_busy {s : State} (h : busy s = true) : hostAbort s = { s with phase := .idle } := if_pos h

theorem hostAbort_of_not_busy {s : State} (h : busy s = false) : hostAbort s = s := by simp [hostAbort, h]

/-- No error is reported while an operation is in flight (R50, R376). -/
theorem ErrorsMatch.errClass_none_of_busy {s : State} (h : ErrorsMatch s) (hb : busy s = true) : s.errClass = .none := by
  have hphase : s.phase ≠ .error := fun he => by simp [not_busy_of_terminal (.inr he)] at hb
  rw [h.cls, h.errSub_none hphase]
  rfl

/-- Settles O4: an abort writes PHASE only, and in IDLE no rule of the core fires. -/
theorem abortOperation : Obligations.AbortOperation := fun _ =>
  ⟨fun hb => ⟨congrArg Host.Outcome.next (hostAbort_of_busy hb), coreStep_of_not_busy (.inl rfl),
      fun h => h.errClass_none_of_busy hb⟩,
    fun hb => congrArg Host.Outcome.next (hostAbort_of_not_busy hb)⟩

/-! ### The source (R348), the sink (R349) and the ports (R344) -/

theorem sourceEnabled_iff (s : State) : sourceEnabled s = true ↔ busy s = true ∧ s.inEos = false := by
  simp [sourceEnabled]

theorem sourceEnabled_eq_false_iff (s : State) : sourceEnabled s = false ↔ busy s = false ∨ s.inEos = true := by
  cases hb : busy s <;> simp [sourceEnabled, hb]

theorem agentStep_source_of_enabled {s : State} (h : sourceEnabled s = true) (b : Byte) :
    agentStep (.deliver b) s = .next { s with input := s.input ++ [b] } ∧
      agentStep .endInput s = .next { s with inEos := true } := by
  simp [agentStep, sourceDeliver, sourceEnd, h]

theorem agentStep_source_of_disabled {s : State} (h : sourceEnabled s = false) (b : Byte) :
    agentStep (.deliver b) s = .next s ∧ agentStep .endInput s = .next s := by
  simp [agentStep, sourceDeliver, sourceEnd, h]

/-- Settles O5: the source by whether it is enabled; the sink and the ports write their level in every phase. -/
theorem sourceSinkAndPorts : Obligations.SourceSinkAndPorts := fun s b =>
  ⟨fun hb heos => agentStep_source_of_enabled ((sourceEnabled_iff s).2 ⟨hb, heos⟩) b,
    fun h => agentStep_source_of_disabled ((sourceEnabled_eq_false_iff s).2 h) b, fun _ => rfl, fun _ _ _ => rfl⟩

end Sys2Proof.Machine
end

section
/-! The shape of every element's rule: tests, faults, writes and `Emit` (R161), none of which looks at the window. From
it follow which sub-causes a phase raises (R377), and that no element stops the machine. -/

namespace Sys2Proof.Machine

/-- The state with the window contents left out. -/
def State.withoutWin (s : State) : State := { s with win := [] }

/-- The firing with the window contents left out. -/
def Firing.withoutWin : Firing → Firing
  | .done s => .done s.withoutWin
  | .hold => .hold
  | .raise e => .raise e
  | .stop f => .stop f

/-- The rules of the elements. They raise sub-causes of `es` only, a write goes to ERROR from nowhere else, and neither
a test nor a write looks at the window contents. The COPY rule (R163), which reads the window, is none of them. -/
inductive Regular (es : List ErrSub) : Rule → Prop
  | raise {e : ErrSub} (he : e ∈ es) : Regular es fun _ => .raise e
  | done {f : State → State} (hwin : ∀ s, (f s.withoutWin).withoutWin = (f s).withoutWin)
      (hphase : ∀ s, s.phase ≠ .error → (f s).phase ≠ .error) : Regular es fun s => .done (f s)
  | emit (b : Byte) : Regular es (emit b)
  | ite {p : State → Prop} [DecidablePred p] {r q : Rule} (hp : ∀ s, p s.withoutWin = p s) (hr : Regular es r)
      (hq : Regular es q) : Regular es fun s => if p s then r s else q s
  | andThen {r q : Rule} (hr : Regular es r) (hq : Regular es q) : Regular es fun s => (r s).andThen q

/-! ### What follows from the shape -/

section
variable {es : List ErrSub} {r : Rule}

/-- A regular rule fires outside ERROR, holds, or raises one of its sub-causes. -/
theorem Regular.answers (h : Regular es r) {s : State} (hs : s.phase ≠ .error) :
    (∃ t, r s = .done t ∧ t.phase ≠ .error) ∨ r s = .hold ∨ ∃ e ∈ es, r s = .raise e := by
  induction h generalizing s with
  | raise he => exact .inr (.inr ⟨_, he, rfl⟩)
  | done hwin hphase => exact .inl ⟨_, rfl, hphase s hs⟩
  | emit b =>
    rcases emit_eq b s with ⟨-, e⟩ | ⟨-, e⟩
    · exact .inl ⟨_, e, hs⟩
    · exact .inr (.inl e)
  | ite hp hr hq ihr ihq =>
    dsimp only
    split
    · exact ihr hs
    · exact ihq hs
  | andThen hr hq ihr ihq =>
    dsimp only
    rcases ihr hs with ⟨t, e, ht⟩ | e | ⟨x, hx, e⟩ <;> rw [e]
    · exact ihq ht
    · exact .inr (.inl rfl)
    · exact .inr (.inr ⟨x, hx, rfl⟩)

/-- Committed, it always answers a next state, and goes to ERROR by fault entry alone (R380). -/
theorem Regular.commit_next (h : Regular es r) {s : State} (hs : s.phase ≠ .error) :
    ∃ t, commit r s = .next t ∧ (t.phase ≠ .error ∨ ∃ e ∈ es, t = enterError e s) := by
  rcases h.answers hs with ⟨t, e, ht⟩ | e | ⟨x, hx, e⟩
  · exact ⟨t, commit_done e, .inl ht⟩
  · exact ⟨s, commit_hold e, .inl hs⟩
  · exact ⟨_, commit_raise e, .inr ⟨x, hx, rfl⟩⟩

/-- Two firings alike but for the window contents are one firing, or two next states alike but for them. -/
theorem Firing.withoutWin_eq {a b : Firing} (h : a.withoutWin = b.withoutWin) :
    a = b ∨ ∃ t v, a = .done t ∧ b = .done v ∧ t.withoutWin = v.withoutWin := by
  cases a <;> cases b <;> injection h
  case done.done t v h => exact .inr ⟨t, v, rfl, rfl, h⟩
  all_goals
    subst_vars
    exact .inl rfl

/-- From states alike but for the window contents a regular rule fires alike but for them. -/
theorem Regular.withoutWin (h : Regular es r) {s u : State} (hsu : s.withoutWin = u.withoutWin) :
    (r s).withoutWin = (r u).withoutWin := by
  induction h generalizing s u with
  | raise he => rfl
  | done hwin hphase =>
    refine congrArg Firing.done ?_
    rw [← hwin s, hsu, hwin u]
  | emit b =>
    have hsink : s.withoutWin.sinkReady = u.withoutWin.sinkReady := congrArg _ hsu
    have hemitted := congrArg (fun v => (Firing.done (emitted b v)).withoutWin) hsu
    rcases emit_eq b s with ⟨hs, e⟩ | ⟨hs, e⟩
    · rw [e, emit_of_sinkReady (s := u) (hsink.symm.trans hs)]
      exact hemitted
    · rw [e, emit_of_not_sinkReady (s := u) (hsink.symm.trans hs)]
  | @ite p _ r q hp hr hq ihr ihq =>
    have htest : p s ↔ p u := by rw [← hp s, hsu, hp u]
    dsimp only
    by_cases hs : p s
    · rw [if_pos hs, if_pos (htest.1 hs)]
      exact ihr hsu
    · rw [if_neg hs, if_neg (htest.not.1 hs)]
      exact ihq hsu
  | andThen hr hq ihr ihq =>
    dsimp only
    rcases Firing.withoutWin_eq (ihr hsu) with e | ⟨t, v, et, ev, htv⟩
    · rw [e]
    · rw [et, ev]
      exact ihq htv

theorem Regular.commit_withoutWindow (h : Regular es r) {s u : State} (hsu : s.withoutWin = u.withoutWin) :
    withoutWindow (commit r s) = withoutWindow (commit r u) := by
  have hr := h.withoutWin hsu
  unfold commit
  rcases Firing.withoutWin_eq hr with e | ⟨t, v, et, ev, htv⟩
  · rw [e]
    cases r u with
    | done | stop => rfl
    | hold => exact congrArg Host.Outcome.next hsu
    | raise x => exact congrArg (fun w => Host.Outcome.next (enterError x w)) hsu
  · rw [et, ev]
    exact congrArg Host.Outcome.next htv

end

/-! ### The rules of the elements -/

/-- A fault, raised on a test, before a regular rule. -/
theorem Regular.guard {es : List ErrSub} {e : ErrSub} {p : State → Prop} [DecidablePred p] {r : Rule}
    (hp : ∀ s, p s.withoutWin = p s) (he : e ∈ es) (h : Regular es r) :
    Regular es fun s => if p s then .raise e else r s :=
  .ite hp (.raise he) h

/-- A test chooses between two next states. -/
theorem Regular.done_ite {es : List ErrSub} {p : State → Prop} [DecidablePred p] {f g : State → State}
    (hp : ∀ s, p s.withoutWin = p s) (hf : Regular es fun s => .done (f s)) (hg : Regular es fun s => .done (g s)) :
    Regular es fun s => .done (if p s then f s else g s) := by
  simpa only [apply_ite Firing.done] using Regular.ite hp hf hg

theorem ne_error_of_mem_afterGzipExtra {q : Phase} (h : q ∈ afterGzipExtra) : q ≠ .error := by
  rintro rfl
  simp [afterGzipExtra] at h

theorem gzAfterHdr_ne_error (flg : Byte) : gzAfterHdr flg ≠ .error := by
  rcases gzAfterHdr_cases flg with e | e | e | e | e <;> simp [e]

/-- PHASE after a test, where neither choice is ERROR. -/
theorem ite_ne_error {c : Prop} [Decidable c] {p q : Phase} (hp : p ≠ .error) (hq : q ≠ .error) :
    (if c then p else q) ≠ .error := by
  split
  · exact hp
  · exact hq

/-- The last line of `GZIP_EXTRA` (R318). -/
theorem extraStep_regular (es : List ErrSub) : Regular es fun s => .done (extraStep s) :=
  .done_ite (fun _ => rfl)
    (.done (fun _ => rfl) fun s _ => ne_error_of_mem_afterGzipExtra (gzAfterExtra_mem s.gflg))
    (.done (fun _ => rfl) fun _ => id)

theorem codedLength_regular {es : List ErrSub} (he : .repeatOverrun ∈ es) (sym ex n : Nat) {v : State → BitVec 4}
    (hv : ∀ s, v s.withoutWin = v s) : Regular es fun s => codedLength sym ex (v s) n s := by
  refine .guard (fun _ => rfl) he <| .ite (fun _ => rfl) (.done (fun s => ?_) fun _ _ => nofun)
    (.done (fun s => ?_) fun _ => id)
  all_goals
    simp only [hv]
    rfl

theorem distanceRule_regular (es : List ErrSub) (d ex dist : Nat) : Regular es (distanceRule d ex dist) :=
  .done (fun _ => rfl) fun _ _ => nofun

/-- In the order of the symbols: 30 distances, then the two without a meaning (R101, R207). -/
theorem runDist_regular {es : List ErrSub} (he : .invalidDistanceSymbol ∈ es) (d : DistPart) :
    Regular es (runDist d) := by
  unfold runDist
  split
  iterate 30 exact distanceRule_regular es _ _ _
  iterate 2 exact .raise he

theorem lengthRule_regular {es : List ErrSub} (he : .invalidDistanceSymbol ∈ es) (c ex len : Nat) (d : DistPart) :
    Regular es (lengthRule c ex len d) :=
  .andThen (r := fun s => .done { advance (llBits c s + ex) s with mlen := BitVec.ofNat 9 len })
    (.done (fun _ => rfl) fun _ => id) (runDist_regular he d)

/-- An element that always writes. -/
theorem exec_regular_of_next {es : List ErrSub} {i : Instr} {f : State → State} (h : ∀ s, exec i s = .next (f s))
    (hwin : ∀ s, (f s.withoutWin).withoutWin = (f s).withoutWin)
    (hphase : ∀ s, s.phase ≠ .error → (f s).phase ≠ .error) : ∃ r, Regular es r ∧ ∀ s, exec i s = commit r s :=
  ⟨_, .done hwin hphase, h⟩

/-- An element that always faults. -/
theorem exec_regular_of_raise {es : List ErrSub} {i : Instr} {e : ErrSub} (he : e ∈ es)
    (h : ∀ s, exec i s = .next (enterError e s)) : ∃ r, Regular es r ∧ ∀ s, exec i s = commit r s :=
  ⟨_, .raise he, h⟩

/-- Every element of a phase is a regular rule that raises what R377 lists for the phase. After the elements of their
own shape come, in the order of the table, the code lengths and the back-references. -/
theorem exec_regular {i : Instr} {p : Phase} (h : i.phase = some p) :
    ∃ r, Regular (raisable p) r ∧ ∀ s, exec i s = commit r s := by
  cases i <;> cases h
  case blkReserved => exact exec_regular_of_raise (e := .blockType3) (by decide) fun _ => rfl
  case ll286 | ll287 => exact exec_regular_of_raise (e := .invalidLengthSymbol) (by decide) fun _ => rfl
  case gzipHcrc | blkStored | blkFixed | blkDynamic | dynHdr =>
    exact exec_regular_of_next (fun _ => rfl) (fun _ => rfl) fun _ _ => nofun
  case eob => exact exec_regular_of_next (fun _ => rfl) (fun _ => rfl) fun s _ => afterBlock_ne_error s
  case gzipName b =>
    exact exec_regular_of_next (exec_gzipName_eq b) (fun _ => rfl) fun s hs =>
      ite_ne_error (ne_error_of_mem_afterGzipExtra (gzAfterName_mem s.gflg)) hs
  case gzipComment b =>
    exact exec_regular_of_next (exec_gzipComment_eq b) (fun _ => rfl) fun s hs =>
      ite_ne_error (ne_error_of_mem_afterGzipExtra (gzAfterComment_mem s.gflg)) hs
  case dynCllen =>
    refine ⟨_, ?_, fun s => by rw [exec, execDynCllen]⟩
    exact .done_ite (fun _ => rfl) (.done (fun _ => rfl) fun _ _ => nofun) (.done (fun _ => rfl) fun _ => id)
  all_goals refine ⟨_, ?_, fun _ => rfl⟩
  case zlibHdr =>
    exact .guard (fun _ => rfl) (by decide) <| .guard (fun _ => rfl) (by decide) <| .guard (fun _ => rfl) (by decide) <|
      .guard (fun _ => rfl) (by decide) <| .done (fun _ => rfl) fun _ _ => nofun
  case zlibTrailer => exact .guard (fun _ => rfl) (by decide) <| .done (fun _ => rfl) fun _ _ => nofun
  case gzipHdr flg _ _ _ =>
    refine .guard (fun _ => rfl) (by decide) <| .guard (fun _ => rfl) (by decide) <| .done (fun _ => rfl) fun _ _ => ?_
    exact gzAfterHdr_ne_error flg
  case gzipTrailer =>
    exact .guard (fun _ => rfl) (by decide) <| .guard (fun _ => rfl) (by decide) <|
      .done (fun _ => rfl) fun _ _ => nofun
  case gzipExtra part =>
    cases part with
    | lengthField n =>
      exact .andThen (r := fun s => .done { advanceAligned 16 s with xlen := n, xlenValid := true })
        (.done (fun _ => rfl) fun _ => id) (extraStep_regular _)
    | payload b =>
      exact .andThen (r := fun s => .done { advanceAligned 8 s with xlen := s.xlen - 1 })
        (.done (fun _ => rfl) fun _ => id) (extraStep_regular _)
  case storedHdr =>
    refine .guard (fun _ => rfl) (by decide) <| .done (fun _ => rfl) fun s _ => ?_
    exact ite_ne_error (afterBlock_ne_error s) nofun
  case storedByte b =>
    exact .andThen (r := fun s => emit b (advance 8 s))
      (.andThen (r := fun s => .done (advance 8 s)) (.done (fun _ => rfl) fun _ => id) (.emit b))
      (.done (fun _ => rfl) fun t ht => ite_ne_error (afterBlock_ne_error t) ht)
  case clRep16 e =>
    exact .guard (fun _ => rfl) (by decide) <| codedLength_regular (by decide) 16 2 (3 + e.toNat) fun _ => rfl
  case lit b =>
    exact .andThen (r := fun s => .done (advance (llBits b.toNat s) s)) (.done (fun _ => rfl) fun _ => id) (.emit b)
  iterate 18 exact codedLength_regular (by decide) _ _ _ fun _ => rfl
  iterate 29 exact lengthRule_regular (by decide) _ _ _ _

end Sys2Proof.Machine
end

section
/-! Which phase raises what, and that the machine never stops (60_exceptions R377, R380; 70_reset_and_hazards R412). -/

namespace Sys2Proof.Machine

/-! ### Where no element is read (R121, R145) -/

/-- Every rejection of the read is that bits are missing. -/
def OnlyShort {α : Type} (r : Read α) : Prop := ∀ e, r = .reject e → e = .short

theorem onlyShort_ok {α : Type} (a : α) (c : Cursor) : OnlyShort (.ok a c) := nofun

theorem OnlyShort.bind {α β : Type} {r : Read α} {f : α → Cursor → Read β} (hr : OnlyShort r)
    (hf : ∀ a c, OnlyShort (f a c)) : OnlyShort (r.bind f) := by
  cases r with
  | ok a c => exact hf a c
  | reject x =>
    rintro e ⟨⟩
    exact hr x rfl

theorem readBits_onlyShort (n : Nat) (c : Cursor) : OnlyShort (readBits n c) := by
  rcases readBits_cases n c with ⟨-, e⟩ | ⟨-, e⟩ <;> rw [e]
  · exact onlyShort_ok _ _
  · rintro _ ⟨⟩
    rfl

/-- One field read and nothing after it. -/
theorem OnlyShort.map {α β : Type} {r : Read α} (hr : OnlyShort r) (f : α → β) :
    OnlyShort (r.bind fun a c => .ok (f a) c) := hr.bind fun _ _ => onlyShort_ok _ _

theorem u8_onlyShort (c : Cursor) : OnlyShort (u8 c) := readBits_onlyShort 8 _

theorem u16LE_onlyShort (c : Cursor) : OnlyShort (u16LE c) := readBits_onlyShort 16 _

theorem u32LE_onlyShort (c : Cursor) : OnlyShort (u32LE c) := readBits_onlyShort 32 _

theorem u32BE_onlyShort (c : Cursor) : OnlyShort (u32BE c) :=
  (readBits_onlyShort 8 _).bind fun _ c => (readBits_onlyShort 8 c).bind fun _ c =>
    (readBits_onlyShort 8 c).bind fun _ c => (readBits_onlyShort 8 c).map _

/-- Where a read is rejected, R377 lists for the phase what `notFetched` then raises: `EOS` where bits are missing,
`InvalidHuffmanCode` where a walk met no code. -/
structure RejectionListed {α : Type} (p : Phase) (r : Read α) : Prop where
  short : r = .reject .short → .eos ∈ raisable p
  invalidCode : r = .reject .invalidCode → .invalidHuffmanCode ∈ raisable p

theorem rejectionListed_of_onlyShort {α : Type} {p : Phase} {r : Read α} (hp : .eos ∈ raisable p) (h : OnlyShort r) :
    RejectionListed p r := ⟨fun _ => hp, fun e => nomatch h _ e⟩

theorem decodeGzipHdr_onlyShort (c : Cursor) : OnlyShort (decodeGzipHdr c) :=
  (u8_onlyShort c).bind fun _ c => (u8_onlyShort c).bind fun _ c => (u8_onlyShort c).bind fun _ c =>
    (u8_onlyShort c).bind fun _ c => (u32LE_onlyShort c).bind fun _ c => (u8_onlyShort c).bind fun _ c =>
      (u8_onlyShort c).map _

theorem decodeBlockHdr_onlyShort (c : Cursor) : OnlyShort (decodeBlockHdr c) := by
  refine (readBits_onlyShort 3 c).bind fun v c => ?_
  split <;> exact onlyShort_ok _ _

/-- Only the two phases that walk a code can meet none. -/
theorem decode_rejectionListed (x : DecodeCtx) (c : Cursor) : RejectionListed x.phase (decode x c) := by
  obtain ⟨p, xlenValid, hasPrevious, cl, ll, dist⟩ := x
  cases p <;> dsimp only
  case idle | copy | done | error => exact ⟨nofun, nofun⟩
  case dynLens | symbol => exact ⟨fun _ => by decide, fun _ => by decide⟩
  all_goals refine rejectionListed_of_onlyShort (by decide) ?_
  case gzipHdr => exact decodeGzipHdr_onlyShort c
  case blockHdr => exact decodeBlockHdr_onlyShort c
  case zlibHdr => exact (u8_onlyShort c).bind fun _ c => (u8_onlyShort c).map _
  case gzipExtra =>
    cases xlenValid
    · exact (u16LE_onlyShort c).map _
    · exact (u8_onlyShort c).map _
  case gzipName | gzipComment => exact (u8_onlyShort c).map _
  case gzipHcrc => exact (u16LE_onlyShort c).map _
  case storedHdr => exact (u16LE_onlyShort _).bind fun _ c => (u16LE_onlyShort c).map _
  case storedCopy => exact (readBits_onlyShort 8 c).map _
  case dynHdr =>
    exact (readBits_onlyShort 5 c).bind fun _ c => (readBits_onlyShort 5 c).bind fun _ c =>
      (readBits_onlyShort 4 c).map _
  case dynCllen => exact (readBits_onlyShort 3 c).map _
  case zlibTrailer => exact (u32BE_onlyShort c).map _
  case gzipTrailer => exact (u32LE_onlyShort c).bind fun _ c => (u32LE_onlyShort c).map _

/-! ### Faults (R377, R380) -/

/-- The element that is fetched runs a regular rule of the phase. -/
theorem fetch_regular {s : State} {i : Instr} {c : Cursor} (h : fetch s = .ok i c) :
    ∃ r, Regular (raisable s.phase) r ∧ ∀ u, exec i u = commit r u := by
  obtain ⟨-, hph⟩ := decode_yields (decodeCtx s) (cursor s) i c h
  exact exec_regular hph

/-- COPY (R163) raises its one fault, holds, or copies a byte. -/
theorem execCopy_next {s t : State} (ph : s.phase = .copy) (h : execCopy s = .next t) :
    t = enterError .invalidBackReference s ∨ t = s ∨ ∃ b, t = copied b s := by
  rcases Nat.lt_or_ge s.total s.mdist.toNat with hd | hd
  · rw [execCopy_beyond hd] at h
    cases h
    exact .inl rfl
  · cases hb : s.win.read (copyAddr s) with
    | none =>
      have hstop : execCopy s = .fault (.unwrittenCell (copyAddr s)) :=
        commit_stop (by simp only [if_neg (Nat.not_lt.2 hd), hb])
      cases hstop.symm.trans h
    | some b =>
      cases hs : s.sinkReady with
      | false =>
        rw [execCopy_of_not_sinkReady hd hb hs] at h
        cases h
        exact .inr (.inl rfl)
      | true =>
        rw [execCopy_of_sinkReady ph hd hb hs] at h
        cases h
        exact .inr (.inr ⟨b, rfl⟩)

theorem copied_phase_ne_error (b : Byte) (s : State) : (copied b s).phase ≠ .error := ite_ne_error nofun nofun

/-- A firing of the core that enters ERROR is fault entry (R380) with a sub-cause that R377 lists for the phase. -/
theorem coreStep_enters_error {s t : State} (h : coreStep s = .next t) (hs : s.phase ≠ .error) (ht : t.phase = .error) :
    ∃ e ∈ raisable s.phase, t = enterError e s := by
  have listed : RejectionListed s.phase (fetch s) := decode_rejectionListed (decodeCtx s) (cursor s)
  rcases coreStep_eq s with ⟨i, c, hf, e⟩ | ⟨x, hf, e⟩ <;> rw [e] at h
  · obtain ⟨r, hr, hexec⟩ := fetch_regular hf
    obtain ⟨u, hu, hcase⟩ := hr.commit_next hs
    rw [hexec, hu] at h
    cases h
    exact hcase.resolve_left fun hne => hne ht
  · cases x with
    | short =>
      cases heos : s.inEos <;> simp only [notFetched, heos] at h <;> cases h
      · exact absurd ht hs
      · exact ⟨_, listed.short hf, rfl⟩
    | invalidCode =>
      cases h
      exact ⟨_, listed.invalidCode hf, rfl⟩
    | noElement =>
      by_cases ph : s.phase = .copy
      · rw [notFetched_of_copy ph] at h
        rcases execCopy_next ph h with rfl | rfl | ⟨b, rfl⟩
        · exact ⟨_, by rw [ph]; decide, rfl⟩
        · exact absurd ht hs
        · exact absurd ht (copied_phase_ne_error b s)
      · rw [notFetched_of_not_copy ph] at h
        cases h
        exact absurd ht hs

theorem ne_none_of_mem_raisable {p : Phase} {e : ErrSub} (h : e ∈ raisable p) : e ≠ .none := by
  rintro rfl
  revert h
  cases p <;> decide

/-- Settles O8: ERROR is entered by fault entry only. -/
theorem preciseFaults : Obligations.PreciseFaults := by
  intro s t h hs ht
  obtain ⟨e, he, rfl⟩ := coreStep_enters_error h hs ht
  exact ⟨e, ne_none_of_mem_raisable he, rfl⟩

/-- Settles O9: `exec_regular` for the elements, `decode_rejectionListed` where none is read. -/
theorem faultMatrix : Obligations.FaultMatrix := by
  intro s t h hs ht
  obtain ⟨e, he, rfl⟩ := coreStep_enters_error h hs ht
  exact he

/-! ### The machine never stops (R412) -/

/-- A back-reference within OUT finds a byte in its cell, and the same byte in any window that holds the last of OUT. -/
theorem WindowHolds.read_copyAddr_eq {s : State} {win : Memory} (h : WindowHolds s)
    (h' : WindowHolds { s with win := win }) (hpos : 1 ≤ s.mdist.toNat) (htotal : s.mdist.toNat ≤ s.total) :
    ∃ b, s.win.read (copyAddr s) = some b ∧ win.read (copyAddr s) = some b := by
  obtain ⟨⟨hback, hlen, hread⟩, -⟩ := copyReadsTheWindow.2 s h hpos htotal
  obtain ⟨⟨-, -, hread'⟩, -⟩ := copyReadsTheWindow.2 { s with win := win } h' hpos htotal
  have hsome := List.getElem?_eq_getElem (Nat.sub_lt_of_pos_le hback hlen)
  exact ⟨_, hread.trans hsome, hread'.trans hsome⟩

theorem execCopy_answers {s : State} (ph : s.phase = .copy) (h : WindowHolds s) (hr : PhaseRegisters s) :
    ∃ t, execCopy s = .next t := by
  obtain ⟨-, hpos, -⟩ := hr.copy ph
  rcases Nat.lt_or_ge s.total s.mdist.toNat with hd | hd
  · exact ⟨_, execCopy_beyond hd⟩
  · obtain ⟨b, hb, -⟩ := h.read_copyAddr_eq h hpos hd
    cases hs : s.sinkReady with
    | false => exact ⟨_, execCopy_of_not_sinkReady hd hb hs⟩
    | true => exact ⟨_, execCopy_of_sinkReady ph hd hb hs⟩

theorem coreStep_answers {s : State} (h : WindowHolds s) (hr : PhaseRegisters s) : ∃ t, coreStep s = .next t := by
  by_cases hs : s.phase = .error
  · exact ⟨s, coreStep_of_not_busy (.inr (.inr hs))⟩
  rcases coreStep_eq s with ⟨i, c, hf, e⟩ | ⟨x, hf, e⟩ <;> rw [e]
  · obtain ⟨r, hreg, hexec⟩ := fetch_regular hf
    obtain ⟨t, ht, -⟩ := hreg.commit_next hs
    exact ⟨t, (hexec s).trans ht⟩
  · cases x with
    | short => cases heos : s.inEos <;> simp [notFetched, heos]
    | invalidCode => exact ⟨_, rfl⟩
    | noElement =>
      by_cases ph : s.phase = .copy
      · rw [notFetched_of_copy ph]
        exact execCopy_answers ph h hr
      · exact ⟨s, notFetched_of_not_copy ph⟩

/-- Settles O47: regular rules never stop, and COPY finds its byte; every other agent answers by definition. -/
theorem stepNeverStops : Obligations.StepNeverStops := by
  intro s h hr
  rcases step_eq s with ⟨-, e⟩ | ⟨a, rest, -, e⟩ <;> rw [e]
  · exact coreStep_answers h hr
  · have hsched := Environment.scheduled s rest
    cases a with
    | core => exact coreStep_answers (windowHolds_environment hsched h) (phaseRegisters_environment hsched hr)
    | _ => exact ⟨_, rfl⟩

end Sys2Proof.Machine
end

section
/-! Two machines that differ in the window contents only go on so (70_reset_and_hazards R411, R412): no rule but COPY
looks at the window, and COPY at bytes of OUT only. -/

namespace Sys2Proof.Machine

/-! ### The steps of the host, the source and the sink -/

theorem entryPhase_ne_error (m : Mode) : entryPhase m ≠ .error := by cases m <;> nofun

theorem hostStart_regular : Regular [] fun s => .done (hostStart s) :=
  .done_ite (fun _ => rfl) (.done (fun _ => rfl) fun _ => id) (.done (fun _ => rfl) fun _ _ => entryPhase_ne_error _)

theorem hostAbort_regular : Regular [] fun s => .done (hostAbort s) :=
  .done_ite (fun _ => rfl) (.done (fun _ => rfl) fun _ _ => nofun) (.done (fun _ => rfl) fun _ => id)

theorem sourceDeliver_regular (b : Byte) : Regular [] fun s => .done (sourceDeliver b s) :=
  .done_ite (fun _ => rfl) (.done (fun _ => rfl) fun _ => id) (.done (fun _ => rfl) fun _ => id)

theorem sourceEnd_regular : Regular [] fun s => .done (sourceEnd s) :=
  .done_ite (fun _ => rfl) (.done (fun _ => rfl) fun _ => id) (.done (fun _ => rfl) fun _ => id)

/-- The other agents look at the window as little as the elements do. -/
theorem agentStep_regular {a : AgentStep} (h : a ≠ .core) : ∃ r, Regular [] r ∧ ∀ s, agentStep a s = commit r s := by
  cases a with
  | core => exact absurd rfl h
  | configure m w k => exact ⟨fun s => .done (hostConfigure m w k s), .done (fun _ => rfl) fun _ => id, fun _ => rfl⟩
  | start => exact ⟨_, hostStart_regular, fun _ => rfl⟩
  | abort => exact ⟨_, hostAbort_regular, fun _ => rfl⟩
  | hardwareReset => exact ⟨fun s => .done (hardwareReset s), .done (fun _ => rfl) fun _ _ => nofun, fun _ => rfl⟩
  | deliver b => exact ⟨_, sourceDeliver_regular b, fun _ => rfl⟩
  | endInput => exact ⟨_, sourceEnd_regular, fun _ => rfl⟩
  | sink ready => exact ⟨fun s => .done (sinkSet ready s), .done (fun _ => rfl) fun _ => id, fun _ => rfl⟩

/-! ### Two machines (R411, R412) -/

/-- Two machines that differ in the window contents at most, each window holding the last bytes of the one OUT. -/
structure DifferInWindow (s u : State) : Prop where
  same : s.withoutWin = u.withoutWin
  window : WindowHolds s
  window' : WindowHolds u
  registers : PhaseRegisters s
  registers' : PhaseRegisters u

theorem eq_of_withoutWin_eq {s u : State} (h : s.withoutWin = u.withoutWin) : u = { s with win := u.win } :=
  (congrArg (fun v : State => { v with win := u.win }) h).symm

/-- What does not look at the window contents is the same. -/
theorem congr_of_withoutWin_eq {α : Type} (f : State → α) {s u : State} (h : s.withoutWin = u.withoutWin)
    (hf : ∀ v : State, f v.withoutWin = f v := by exact fun _ => rfl) : f s = f u := by
  rw [← hf s, h, hf u]

/-- COPY reads the same byte of OUT from both windows (R412). -/
theorem DifferInWindow.execCopy {s u : State} (h : DifferInWindow s u) (ph : s.phase = .copy) :
    withoutWindow (execCopy s) = withoutWindow (execCopy u) := by
  obtain ⟨same, window, window', registers, -⟩ := h
  rw [eq_of_withoutWin_eq same] at window' ⊢
  generalize u.win = win at *
  obtain ⟨-, hpos, -⟩ := registers.copy ph
  rcases Nat.lt_or_ge s.total s.mdist.toNat with hd | hd
  · rw [execCopy_beyond hd, execCopy_beyond (s := { s with win := win }) hd]
    rfl
  · obtain ⟨b, hb, hb'⟩ := window.read_copyAddr_eq window' hpos hd
    rcases Bool.eq_false_or_eq_true s.sinkReady with hs | hs
    · rw [execCopy_of_sinkReady ph hd hb hs, execCopy_of_sinkReady (s := { s with win := win }) ph hd hb' hs]
      rfl
    · rw [execCopy_of_not_sinkReady hd hb hs, execCopy_of_not_sinkReady (s := { s with win := win }) hd hb' hs]
      rfl

theorem DifferInWindow.notFetched {s u : State} (h : DifferInWindow s u) (x : Reject) :
    withoutWindow (notFetched x s) = withoutWindow (notFetched x u) := by
  have hphase : s.phase = u.phase := congr_of_withoutWin_eq State.phase h.same
  have heos : s.inEos = u.inEos := congr_of_withoutWin_eq State.inEos h.same
  have hnext : withoutWindow (.next s) = withoutWindow (.next u) := congrArg Host.Outcome.next h.same
  have hraise (e : ErrSub) : withoutWindow (.next (enterError e s)) = withoutWindow (.next (enterError e u)) :=
    congrArg (fun v => Host.Outcome.next (enterError e v)) h.same
  cases x with
  | short =>
    rw [Machine.notFetched, Machine.notFetched, heos]
    split
    · exact hraise .eos
    · exact hnext
  | invalidCode => exact hraise .invalidHuffmanCode
  | noElement =>
    by_cases ph : s.phase = .copy
    · rw [notFetched_of_copy ph, notFetched_of_copy (hphase ▸ ph)]
      exact h.execCopy ph
    · rw [notFetched_of_not_copy ph, notFetched_of_not_copy (hphase ▸ ph)]
      exact hnext

theorem DifferInWindow.coreStep {s u : State} (h : DifferInWindow s u) :
    withoutWindow (coreStep s) = withoutWindow (coreStep u) := by
  have hfetch : fetch s = fetch u := congr_of_withoutWin_eq fetch h.same
  unfold Machine.coreStep
  rw [← hfetch]
  cases hf : fetch s with
  | ok i c =>
    obtain ⟨r, hr, hexec⟩ := fetch_regular hf
    dsimp only
    rw [hexec, hexec]
    exact hr.commit_withoutWindow h.same
  | reject x => exact h.notFetched x

theorem DifferInWindow.scheduled {s u : State} (h : DifferInWindow s u) (rest : List AgentStep) :
    DifferInWindow { s with pending := rest } { u with pending := rest } where
  same := congrArg (fun v : State => { v with pending := rest }) h.same
  window := windowHolds_environment (.scheduled s rest) h.window
  window' := windowHolds_environment (.scheduled u rest) h.window'
  registers := phaseRegisters_environment (.scheduled s rest) h.registers
  registers' := phaseRegisters_environment (.scheduled u rest) h.registers'

theorem DifferInWindow.withoutWindow_step {s u : State} (h : DifferInWindow s u) :
    withoutWindow (step s) = withoutWindow (step u) := by
  have hpending : s.pending = u.pending := congr_of_withoutWin_eq State.pending h.same
  unfold Machine.step stepAgents
  rw [← hpending]
  cases s.pending with
  | nil => exact h.coreStep
  | cons a rest =>
    dsimp only
    by_cases ha : a = .core
    · rw [ha]
      exact (h.scheduled rest).coreStep
    · obtain ⟨r, hr, hagent⟩ := agentStep_regular ha
      rw [hagent, hagent]
      exact hr.commit_withoutWindow (h.scheduled rest).same

/-- A step of each answers, and they differ in the window contents at most again. -/
theorem DifferInWindow.step {s u : State} (h : DifferInWindow s u) :
    ∃ t v, step s = .next t ∧ step u = .next v ∧ DifferInWindow t v := by
  obtain ⟨t, ht⟩ := stepNeverStops s h.window h.registers
  obtain ⟨v, hv⟩ := stepNeverStops u h.window' h.registers'
  have hsame := h.withoutWindow_step
  rw [ht, hv] at hsame
  exact ⟨t, v, ht, hv, {
    same := Host.Outcome.next.inj hsame
    window := stepKeepsWindow s t h.window ht
    window' := stepKeepsWindow u v h.window' hv
    registers := stepKeepsPhaseRegisters s t h.registers ht
    registers' := stepKeepsPhaseRegisters u v h.registers' hv }⟩

theorem DifferInWindow.steps {s u : State} (h : DifferInWindow s u) (n : Nat) :
    withoutWindow (steps n s) = withoutWindow (steps n u) := by
  induction n generalizing s u with
  | zero => exact congrArg Host.Outcome.next h.same
  | succ n ih =>
    obtain ⟨t, v, ht, hv, hnext⟩ := h.step
    rw [steps_succ_of_step ht, steps_succ_of_step hv]
    exact ih hnext

/-! ### A start (R341, R411) -/

/-- After a `start` nothing of what came before is left but the window contents, none of which is a byte of OUT. -/
theorem hostStart_invariants {s : State} (form : s.win.wf = true) (hb : busy s = false) (hc : cfgInvalid s = false) :
    WindowHolds (hostStart s) ∧ PhaseRegisters (hostStart s) := by
  have hidle : WindowHolds (resetCore s) := windowHolds_of_empty form (by simp) rfl rfl rfl
  have hidle' : PhaseRegisters (resetCore s) := phaseRegisters_of_not_ranged (by simp [ranged])
  have hstart : Environment (resetCore s) (hostStart s) := by
    rw [hostStart_of_mode hb hc rfl]
    exact .starts (s := resetCore s) hc
  exact ⟨windowHolds_environment hstart hidle, phaseRegisters_environment hstart hidle'⟩

/-- Settles O59: after the two starts `DifferInWindow` holds, and every step keeps it. -/
theorem staleWindowNeverShows : Obligations.StaleWindowNeverShows := by
  intro s u sched n form form' hs hu hc mode windowBits check sink
  have hc' : cfgInvalid u = false := by
    rw [← hc]
    simp only [cfgInvalid, mode, windowBits]
  have same : (hostStart s).withoutWin = { (hostStart u).withoutWin with pending := s.pending } := by
    rw [hostStart_of_mode hs hc rfl, hostStart_of_mode hu hc' rfl]
    simp only [State.withoutWin, resetCore, mode, windowBits, check, sink]
  obtain ⟨window, registers⟩ := hostStart_invariants form hs hc
  obtain ⟨window', registers'⟩ := hostStart_invariants form' hu hc'
  refine DifferInWindow.steps ⟨congrArg (fun v : State => { v with pending := sched }) same, ?_, ?_, ?_, ?_⟩ n
  · exact windowHolds_environment (.scheduled _ sched) window
  · exact windowHolds_environment (.scheduled _ sched) window'
  · exact phaseRegisters_environment (.scheduled _ sched) registers
  · exact phaseRegisters_environment (.scheduled _ sched) registers'

end Sys2Proof.Machine
end

section
/-! Reading what an encoder wrote (49_reference_encoder R360 to R366): a run of steps, an element at the head of the
bits ahead, and the bytes of a number as bits. -/

namespace Sys2Proof.Machine

/-! ### Runs -/

/-- The machine steps from one state to another, every state before the last having the property. -/
abbrev Passes (P : State → Prop) : State → State → Prop := Relation.ReflTransGen fun s t => P s ∧ step s = .next t

theorem Passes.exists_steps {P : State → Prop} {s t : State} (h : Passes P s t) :
    ∃ n, steps n s = .next t ∧ ∀ m < n, ∃ u, steps m s = .next u ∧ P u := by
  induction h using Relation.ReflTransGen.head_induction_on with
  | refl => exact ⟨0, rfl, nofun⟩
  | head hstep _ ih =>
    obtain ⟨hP, hs⟩ := hstep
    obtain ⟨n, hn, hbefore⟩ := ih
    refine ⟨n + 1, (steps_succ_of_step hs n).trans hn, fun m hm => ?_⟩
    cases m with
    | zero => exact ⟨_, rfl, hP⟩
    | succ m =>
      rw [steps_succ_of_step hs]
      exact hbefore m (Nat.lt_of_succ_lt_succ hm)

/-- What every step keeps, a run keeps. -/
theorem Passes.keeps {P Q : State → Prop} (hQ : ∀ s t, Q s → step s = .next t → Q t) {s t : State}
    (h : Passes P s t) (hs : Q s) : Q t := by
  induction h with
  | refl => exact hs
  | tail _ hstep ih => exact hQ _ _ ih hstep.2

/-! ### An element ahead -/

/-- The core alone moves, the sink takes every byte, `bits` of `input` are still ahead, and OUT is `out`. -/
structure Reading (input : List Byte) (mode : Mode) (out : List Byte) (bits : List Bool) (s : State) : Prop where
  pending : s.pending = []
  sinkReady : s.sinkReady = true
  input : s.input = input
  mode : s.mode = mode
  output : s.output = out
  ahead : (cursor s).rest = bits

section
variable {input : List Byte} {mode : Mode} {out : List Byte} {bits tail : List Bool} {s t : State} {i : Instr}

/-- An element of the phase whose bits are ahead is fetched (R25). -/
theorem Reading.fetch (h : Reading input mode out (bits ++ tail) s) (hph : i.phase = some s.phase)
    (hwf : i.wellFormed = true) (henc : encodeBits (decodeCtx s) s.pc i = some bits) :
    fetch s = .ok i ⟨s.pc + bits.length, tail⟩ := by
  have hcursor : cursor s = ⟨s.pc, bits ++ tail⟩ := congrArg (Cursor.mk s.pc) h.ahead
  have hword : encode (decodeCtx s) s.pc i = some bits := by
    rw [encode, hph]
    exact (if_pos rfl).trans henc
  rw [Machine.fetch, hcursor]
  exact decodeEncode _ _ i bits tail (fun _ => le_of_mem_lengthsOf) (fun _ => le_of_mem_lengthsOf)
    (fun _ => le_of_mem_lengthsOf) hwf hph hword

/-- It is run, and the bits behind it are ahead then (R23). -/
theorem Reading.run (h : Reading input mode out (bits ++ tail) s) (hph : i.phase = some s.phase)
    (hwf : i.wellFormed = true) (henc : encodeBits (decodeCtx s) s.pc i = some bits) (hx : exec i s = .next t)
    (hne : t.phase ≠ .error) :
    step s = .next t ∧ Reading input mode t.output tail t := by
  have hfetch := h.fetch hph hwf henc
  have hpc : t.pc = s.pc + bits.length := pcFollowsTheBits s t i _ hfetch hx hne h.sinkReady
  obtain ⟨-, hstep, -⟩ := stepRunsDecoded s i _ hfetch
  obtain ⟨hinput, -, hmode, -, -, -, -, hsink, hpending, -⟩ := elementFrame i s t hx
  exact ⟨(hstep h.pending).trans hx, {
    pending := hpending.trans h.pending
    sinkReady := hsink.trans h.sinkReady
    input := hinput.trans h.input
    mode := hmode.trans h.mode
    output := rfl
    ahead := by
      have hahead : (bitsOfBytes s.input).drop s.pc = bits ++ tail := h.ahead
      rw [cursor, hinput, hpc, ← List.drop_drop, hahead, List.drop_left] }⟩

end

/-! ### Bytes as bits (R61, R66) -/

theorem bitsOfBytes_cons (b : Byte) (bs : List Byte) : bitsOfBytes (b :: bs) = lsbBits b ++ bitsOfBytes bs := rfl

theorem bitsOfBytes_leBytes16 (v : BitVec 16) : bitsOfBytes (leBytes16 v) = lsbBits v := by
  simp [bitsOfBytes, bitsOfByte, leBytes16, lsbBits, List.range_succ]

theorem bitsOfBytes_leBytes32 (v : BitVec 32) : bitsOfBytes (leBytes32 v) = lsbBits v := by
  simp [bitsOfBytes, bitsOfByte, leBytes32, lsbBits, List.range_succ]

theorem alignUp_add_aligned (pos : Nat) {n : Nat} (h : n % 8 = 0) : (alignUp pos + n) % 8 = 0 := by
  obtain ⟨-, -, haligned⟩ := alignUp_spec pos
  omega

/-- At a byte boundary nothing is skipped (R123). -/
theorem padBits_of_aligned {pos : Nat} (h : pos % 8 = 0) : padBits pos = [] := by
  simp [padBits, alignUp_aligned h]

/-- Behind a block header that begins at a byte boundary five bits are skipped (R361). -/
theorem padBits_of_blockHdr {pos : Nat} (h : pos % 8 = 0) : padBits (pos + 3) = List.replicate 5 false := by
  rw [padBits]
  congr 1
  unfold alignUp
  omega

end Sys2Proof.Machine
end

section
/-! The reference encoder's stored blocks, read back (49_reference_encoder R361, R362): by induction over the bytes of
a block and over the blocks. -/

namespace Sys2Proof.Machine

/-- The phases of stored blocks (R362). -/
def InBlocks (s : State) : Prop := s.phase = .blockHdr ∨ s.phase = .storedHdr ∨ s.phase = .storedCopy

/-- A stored block with `chunk` still to be copied (R179); where nothing is, it is over (R177). -/
structure InStored (final : Bool) (chunk : List Byte) (s : State) : Prop where
  bfinal : s.bfinal = final
  slen : s.slen.toNat = chunk.length
  aligned : s.pc % 8 = 0
  phase : s.phase = if chunk = [] then afterBlock s else .storedCopy

section
variable {input : List Byte} {mode : Mode} {out : List Byte} {tail : List Bool} {final : Bool} {chunk : List Byte}
  {s : State}

/-! ### A stored block -/

/-- One byte is copied and counted off (R179). -/
theorem InStored.step {b : Byte} (hs : InStored final (b :: chunk) s)
    (h : Reading input mode out (bitsOfBytes (b :: chunk) ++ tail) s) :
    ∃ t, InBlocks s ∧ step s = .next t ∧ Reading input mode (out ++ [b]) (bitsOfBytes chunk ++ tail) t ∧
      InStored final chunk t := by
  have hphase : s.phase = .storedCopy := hs.phase
  have hslen : s.slen.toNat = chunk.length + 1 := hs.slen
  have hlast : s.slen = 1 ↔ chunk = [] := by
    rw [← List.length_eq_zero_iff, ← BitVec.toNat_inj, hslen]
    exact Nat.succ_inj
  have hx := exec_storedByte_of_sinkReady h.sinkReady b
  rw [bitsOfBytes_cons, List.append_assoc] at h
  obtain ⟨hstep, hread⟩ := h.run (i := .storedByte b) (congrArg some hphase.symm) rfl rfl hx
    (ite_ne_error (afterBlock_ne_error s) (by simp [hphase]))
  refine ⟨_, .inr (.inr hphase), hstep, ?_, ?_⟩
  · rw [emitted_output, h.output] at hread
    exact hread
  · constructor
    · exact hs.bfinal
    · show (s.slen - 1).toNat = chunk.length
      bv_omega
    · have := hs.aligned
      show (s.pc + 8) % 8 = 0
      omega
    · simp only [hlast, hphase]
      rfl

/-- All bytes of the block are copied, down to its end. -/
theorem InStored.passes (hs : InStored final chunk s) (h : Reading input mode out (bitsOfBytes chunk ++ tail) s) :
    ∃ t, Passes InBlocks s t ∧ Reading input mode (out ++ chunk) tail t ∧ InStored final [] t := by
  induction chunk generalizing s out with
  | nil => exact ⟨s, .refl, by rwa [List.append_nil], hs⟩
  | cons b chunk ih =>
    obtain ⟨u, hP, hstep, hread, hu⟩ := hs.step h
    obtain ⟨t, hpass, hread, ht⟩ := ih hu hread
    exact ⟨t, hpass.head ⟨hP, hstep⟩, by simpa using hread, ht⟩

/-- The bits of a stored block at a byte boundary: the header, the padding, the two lengths, the bytes (R361). -/
theorem bitsOfBytes_encBlock (final : Bool) (chunk : List Byte) :
    bitsOfBytes (encBlock final chunk) = blockHdrBits final 0 ++ (List.replicate 5 false ++
      lsbBits (BitVec.ofNat 16 chunk.length) ++ lsbBits (~~~BitVec.ofNat 16 chunk.length)) ++ bitsOfBytes chunk := by
  have hhdr : bitsOfBytes [if final then 1 else 0] = blockHdrBits final 0 ++ List.replicate 5 false := by
    cases final <;> rfl
  simp only [encBlock, bitsOfBytes_append, bitsOfBytes_leBytes16, hhdr, List.append_assoc]

/-- The block header and the two lengths (R176, R178). -/
theorem encBlock_headers (hlen : chunk.length ≤ 65535) (hphase : s.phase = .blockHdr) (haligned : s.pc % 8 = 0)
    (h : Reading input mode out (bitsOfBytes (encBlock final chunk) ++ tail) s) :
    ∃ t, Passes InBlocks s t ∧ Reading input mode out (bitsOfBytes chunk ++ tail) t ∧ InStored final chunk t := by
  rw [bitsOfBytes_encBlock, List.append_assoc, List.append_assoc] at h
  obtain ⟨hstep, hread⟩ := h.run (i := .blkStored final) (congrArg some hphase.symm) rfl rfl rfl nofun
  have hpad : padBits (blockHeader final 0 s).pc = List.replicate 5 false := padBits_of_blockHdr haligned
  have hx := exec_storedHdr_of_complement (len := BitVec.ofNat 16 chunk.length) BitVec.not_not.symm
    { blockHeader final 0 s with phase := .storedHdr }
  obtain ⟨hstep', hread'⟩ := hread.run (i := .storedHdr (BitVec.ofNat 16 chunk.length) _) rfl rfl
    (by rw [encodeBits, hpad]) hx (ite_ne_error (afterBlock_ne_error _) nofun)
  have hslen : (BitVec.ofNat 16 chunk.length).toNat = chunk.length := Nat.mod_eq_of_lt (by omega)
  have hempty : BitVec.ofNat 16 chunk.length = 0 ↔ chunk = [] := by
    rw [← List.length_eq_zero_iff, ← BitVec.toNat_inj, hslen]
    rfl
  refine ⟨_, .head ⟨.inl hphase, hstep⟩ (.single ⟨.inr (.inl rfl), hstep'⟩), h.output ▸ hread', rfl, hslen, ?_, ?_⟩
  · exact alignUp_add_aligned (s.pc + 3) rfl
  · simp only [hempty]
    rfl

/-- A whole block. -/
theorem encBlock_passes (hlen : chunk.length ≤ 65535) (hphase : s.phase = .blockHdr) (haligned : s.pc % 8 = 0)
    (h : Reading input mode out (bitsOfBytes (encBlock final chunk) ++ tail) s) :
    ∃ t, Passes InBlocks s t ∧ Reading input mode (out ++ chunk) tail t ∧ InStored final [] t := by
  obtain ⟨u, hpass, hread, hu⟩ := encBlock_headers hlen hphase haligned h
  obtain ⟨t, hpass', hread', ht⟩ := hu.passes hread
  exact ⟨t, hpass.trans hpass', hread', ht⟩

end

/-! ### The blocks -/

/-- Full blocks and the final one (R361). -/
theorem encBlocks_passes {input : List Byte} {mode : Mode} {tail : List Bool} (n : Nat) {b out : List Byte} {s : State}
    (hlen : b.length ≤ 65535 * (n + 1)) (hphase : s.phase = .blockHdr) (haligned : s.pc % 8 = 0)
    (h : Reading input mode out (bitsOfBytes (encBlocks n b) ++ tail) s) :
    ∃ t, Passes InBlocks s t ∧ Reading input mode (out ++ b) tail t ∧ InStored true [] t := by
  induction n generalizing b out s with
  | zero => exact encBlock_passes (by omega) hphase haligned h
  | succ n ih =>
    rw [encBlocks, bitsOfBytes_append, List.append_assoc] at h
    obtain ⟨u, hpass, hread, hu⟩ := encBlock_passes (by simp) hphase haligned h
    obtain ⟨hafter, -⟩ := afterBlock_spec u
    have hnext : u.phase = .blockHdr := hu.phase.trans (hafter hu.bfinal)
    obtain ⟨t, hpass', hread', ht⟩ := ih (by rw [List.length_drop]; omega) hnext hu.aligned hread
    rw [List.append_assoc, List.take_append_drop] at hread'
    exact ⟨t, hpass.trans hpass', hread', ht⟩

theorem encDeflate_passes {input : List Byte} {mode : Mode} {tail : List Bool} {b : List Byte} {s : State}
    (hphase : s.phase = .blockHdr) (haligned : s.pc % 8 = 0)
    (h : Reading input mode [] (bitsOfBytes (encDeflate b) ++ tail) s) :
    ∃ t, Passes InBlocks s t ∧ Reading input mode b tail t ∧ InStored true [] t :=
  encBlocks_passes (encFullBlocks b) (by rw [encFullBlocks]; omega) hphase haligned h

/-- A block adds its header byte and the two lengths to its bytes (R361). -/
theorem length_encBlocks (n : Nat) {b : List Byte} (hlen : 65535 * n ≤ b.length) :
    (encBlocks n b).length = b.length + 5 * (n + 1) := by
  induction n generalizing b with
  | zero => simp [encBlocks, encBlock, leBytes16]
  | succ n ih =>
    have hdrop : (b.drop 65535).length = b.length - 65535 := List.length_drop
    simp only [encBlocks, encBlock, leBytes16, List.length_append, List.length_cons, List.length_nil, List.length_take,
      ih (b := b.drop 65535) (by omega)]
    omega

/-- `k` blocks for `n` bytes: one at least, and as many as 65535 bytes each need (R361). -/
theorem length_encDeflate (b : List Byte) :
    (encDeflate b).length = b.length + 5 * max 1 ((b.length + 65534) / 65535) := by
  rw [encDeflate, length_encBlocks _ (by rw [encFullBlocks]; omega), encFullBlocks]
  omega

end Sys2Proof.Machine
end

section
/-! An operation that the host starts on the encoder's output (49_reference_encoder R362, R366). -/

namespace Sys2Proof.Machine

/-! ### The start (R341) and the end -/

/-- What holds of an operation the host has just started, the input being whole. -/
structure JustStarted (input : List Byte) (mode : Mode) (s : State) : Prop where
  reading : Reading input mode [] (bitsOfBytes input) s
  phase : s.phase = entryPhase mode
  pc : s.pc = 0
  accumulated : Accumulated s
  errors : ErrorsMatch s

theorem started_justStarted (m : BitVec 2) (w : BitVec 4) (hlegal : ¬(m = 3 ∨ m = 0 ∧ w.toNat < 8)) (c : Bool)
    (input : List Byte) (eos : Bool) : JustStarted input (modeOf m) (started m w c input eos) := by
  have hstart : hostStart (hostConfigure m w c State.reset) = _ := hostStart_of_mode rfl (decide_eq_false hlegal) rfl
  rw [started, hstart]
  exact {
    reading := ⟨rfl, rfl, rfl, rfl, rfl, rfl⟩
    phase := rfl
    pc := rfl
    accumulated := ⟨rfl, rfl, rfl⟩
    errors := errorsMatch_of_clear rfl rfl (entryPhase_ne_error _) }

theorem JustStarted.cursorBounded {input : List Byte} {mode : Mode} {s : State} (h : JustStarted input mode s) :
    CursorBounded s := by
  rw [CursorBounded, h.pc]
  exact Nat.zero_le _

/-- Where no bits are ahead the cursor is at the end of the input. -/
theorem Reading.pc_eq {input : List Byte} {mode : Mode} {out : List Byte} {s : State}
    (h : Reading input mode out [] s) (hs : CursorBounded s) : s.pc = 8 * input.length := by
  have hahead : (bitsOfBytes s.input).drop s.pc = [] := h.ahead
  rw [List.drop_eq_nil_iff, length_bitsOfBytes] at hahead
  rw [← h.input]
  exact Nat.le_antisymm hs hahead

/-- An operation that has read its input to the end and is DONE is complete (R366): no error was met on the way. -/
theorem completes_of_passes {P : State → Prop} {input out : List Byte} {mode : Mode} {s t : State}
    (hs : JustStarted input mode s) (hpass : Passes P s t) (ht : Reading input mode out [] t)
    (hdone : t.phase = .done) : Completes s out := by
  obtain ⟨n, hn, -⟩ := hpass.exists_steps
  have hcursor := hpass.keeps stepKeepsCursor hs.cursorBounded
  have herrors := hpass.keeps (fun s t h hstep => (stepKeepsErrorsAndModes s t hstep).1 h) hs.errors
  have hsub := herrors.errSub_none (by simp [hdone])
  refine ⟨n, t, hn, hdone, ht.output, ?_, hsub, ?_⟩
  · rw [herrors.cls, hsub]
    rfl
  · show (t.pc + 7) / 8 = s.input.length
    rw [ht.pc_eq hcursor, hs.reading.input]
    omega

/-! ### RAW (R362) -/

/-- The RAW operation on `enc_deflate(b)` passes through the phases of stored blocks only. -/
theorem raw_passes {b : List Byte} {s : State} (hs : JustStarted (encDeflate b) .raw s) :
    ∃ t, Passes InBlocks s t ∧ Reading (encDeflate b) .raw b [] t ∧ t.phase = .done := by
  have hread := hs.reading
  rw [← List.append_nil (bitsOfBytes (encDeflate b))] at hread
  obtain ⟨t, hpass, ht, hend⟩ := encDeflate_passes hs.phase (by rw [hs.pc]) hread
  obtain ⟨-, hafter, -⟩ := afterBlock_spec t
  exact ⟨t, hpass, ht, hend.phase.trans (hafter hend.bfinal ht.mode)⟩

theorem raw_justStarted {w : BitVec 4} (hw : 8 ≤ w.toNat) (c : Bool) (input : List Byte) (eos : Bool) :
    JustStarted input .raw (started 0 w c input eos) :=
  started_justStarted 0 w (by rintro (h | ⟨-, h⟩) <;> [cases h; omega]) c input eos

/-- Settles O57: block after block, byte after byte; pc by the length of the encoding. -/
theorem encoderRawRun : Obligations.EncoderRawRun := by
  intro b w c eos hw
  have hs := raw_justStarted hw c (encDeflate b) eos
  obtain ⟨t, hpass, ht, hdone⟩ := raw_passes hs
  obtain ⟨n, hn, hbefore⟩ := hpass.exists_steps
  refine ⟨n, t, hn, hdone, ht.output, ?_, hbefore⟩
  rw [ht.pc_eq (hpass.keeps stepKeepsCursor hs.cursorBounded), length_encDeflate]

/-! ### The wrappers (R363, R365) -/

/-- Behind a wrapper's header the blocks are read, up to the trailer. -/
theorem JustStarted.passes_blocks {input b : List Byte} {mode : Mode} {tail : List Bool} {s v : State}
    (hs : JustStarted input mode s) (hstep : step s = .next v) (hphase : v.phase = .blockHdr) (haligned : v.pc % 8 = 0)
    (h : Reading input mode s.output (bitsOfBytes (encDeflate b) ++ tail) v) :
    ∃ u, Passes (fun _ => True) s u ∧ Reading input mode b tail u ∧ InStored true [] u ∧ Accumulated u := by
  rw [hs.reading.output] at h
  obtain ⟨u, hpass, hread, hu⟩ := encDeflate_passes hphase haligned h
  have hall : Passes (fun _ => True) v u := Relation.ReflTransGen.mono (fun _ _ h => ⟨trivial, h.2⟩) _ _ hpass
  have hpass' : Passes (fun _ => True) s u := .head ⟨trivial, hstep⟩ hall
  exact ⟨u, hpass', hread, hu, hpass'.keeps stepKeepsAccumulators hs.accumulated⟩

/-! ### ZLIB (R363, R366) -/

theorem encFlevel_lt (level : Int) : encFlevel level < 4 := by
  unfold encFlevel
  split_ifs <;> decide

/-- The encoder's header passes the four tests of R301: `FCHECK` is chosen for the third. -/
theorem zlibHdrAccepted_enc {flevel wbits : Nat} (hf : flevel < 4) (hlo : 8 ≤ wbits) (hhi : wbits ≤ 15) :
    ZlibHdrAccepted (BitVec.ofNat 8 (encCmf wbits))
      (BitVec.ofNat 8 (flevel * 64 + encFcheck (encCmf wbits) flevel)) := by
  unfold ZlibHdrAccepted
  interval_cases wbits <;> interval_cases flevel <;> decide

/-- The two halves of the checksum, each most significant byte first, are the trailer's bytes (R303, R363). -/
theorem bitsOfBytes_adler (hi lo : BitVec 16) :
    bitsOfBytes ((leBytes16 hi).reverse ++ (leBytes16 lo).reverse) =
      lsbBits ((hi ++ lo).extractLsb' 24 8) ++ lsbBits ((hi ++ lo).extractLsb' 16 8) ++
        lsbBits ((hi ++ lo).extractLsb' 8 8) ++ lsbBits ((hi ++ lo).extractLsb' 0 8) := by
  rw [BitVec.extractLsb'_append_eq_of_le (by decide), BitVec.extractLsb'_append_eq_of_le (by decide),
    BitVec.extractLsb'_append_eq_of_add_le (by decide), BitVec.extractLsb'_append_eq_of_add_le (by decide)]
  simp [bitsOfBytes, bitsOfByte, leBytes16, lsbBits]

/-- Behind the last block the ZLIB trailer with the Adler32 of OUT ends the operation (R303). -/
theorem zlibTrailer_passes {input b : List Byte} {u : State} (hu : InStored true [] u) (hacc : Accumulated u)
    (h : Reading input .zlib b
      (bitsOfBytes ((leBytes16 (adlerOf b).2).reverse ++ (leBytes16 (adlerOf b).1).reverse)) u) :
    ∃ t, step u = .next t ∧ Reading input .zlib b [] t ∧ t.phase = .done := by
  obtain ⟨-, -, hafter, -⟩ := afterBlock_spec u
  have hphase : u.phase = .zlibTrailer := hu.phase.trans (hafter hu.bfinal h.mode)
  have hadler : (adlerOf b).2 ++ (adlerOf b).1 = adler32 u := by
    rw [← h.output, ← hacc.adler]
    rfl
  rw [bitsOfBytes_adler, ← List.append_nil (_ ++ _)] at h
  obtain ⟨hstep, hread⟩ := h.run (i := .zlibTrailer _) (congrArg some hphase.symm) rfl
    (by rw [encodeBits, padBits_of_aligned hu.aligned, List.nil_append]) (exec_zlibTrailer_of_eq hadler) nofun
  exact ⟨_, hstep, h.output ▸ hread, rfl⟩

theorem bitsOfBytes_encZlib (b : List Byte) (level : Int) (wbits : Nat) :
    bitsOfBytes (encZlib b level wbits) =
      lsbBits (BitVec.ofNat 8 (encCmf wbits)) ++
        lsbBits (BitVec.ofNat 8 (encFlevel level * 64 + encFcheck (encCmf wbits) (encFlevel level))) ++
      (bitsOfBytes (encDeflate b) ++
        bitsOfBytes ((leBytes16 (adlerOf b).2).reverse ++ (leBytes16 (adlerOf b).1).reverse)) := by
  rw [encZlib, List.append_assoc, List.append_assoc, bitsOfBytes_append, bitsOfBytes_append]
  simp [bitsOfBytes, bitsOfByte, lsbBits]

/-- The ZLIB operation: the header, the blocks, the trailer. -/
theorem zlib_passes {b : List Byte} {level : Int} {wbits : Nat} (hlo : 8 ≤ wbits) (hhi : wbits ≤ 15) {s : State}
    (hs : JustStarted (encZlib b level wbits) .zlib s) :
    ∃ t, Passes (fun _ => True) s t ∧ Reading (encZlib b level wbits) .zlib b [] t ∧ t.phase = .done := by
  have haligned : s.pc % 8 = 0 := by rw [hs.pc]
  have hread := hs.reading
  rw [bitsOfBytes_encZlib] at hread
  obtain ⟨hstep, hread⟩ := hread.run (i := .zlibHdr _ _) (congrArg some hs.phase.symm) rfl
    (by rw [encodeBits, padBits_of_aligned haligned, List.nil_append])
    (exec_zlibHdr_of_accepted s (zlibHdrAccepted_enc (encFlevel_lt level) hlo hhi)) nofun
  obtain ⟨u, hpass, hread, hu, hacc⟩ := hs.passes_blocks hstep rfl (alignUp_add_aligned s.pc rfl) hread
  obtain ⟨t, hlast, ht, hdone⟩ := zlibTrailer_passes hu hacc hread
  exact ⟨t, hpass.tail ⟨trivial, hlast⟩, ht, hdone⟩

/-! ### GZIP (R365, R366) -/

/-- Behind the last block the GZIP trailer with the CRC32 and the length of OUT ends the operation (R323). -/
theorem gzipTrailer_passes {input b : List Byte} {u : State} (hu : InStored true [] u) (hacc : Accumulated u)
    (h : Reading input .gzip b (bitsOfBytes (leBytes32 (crcOf b) ++ leBytes32 (BitVec.ofNat 32 b.length))) u) :
    ∃ t, step u = .next t ∧ Reading input .gzip b [] t ∧ t.phase = .done := by
  obtain ⟨-, -, -, hafter, -⟩ := afterBlock_spec u
  have hphase : u.phase = .gzipTrailer := hu.phase.trans (hafter hu.bfinal h.mode)
  have hcrc : crcOf b = u.crc := by rw [← h.output, hacc.crc]
  have hsize : BitVec.ofNat 32 b.length = sizeField u := by rw [sizeField, ← h.output, hacc.total]
  rw [bitsOfBytes_append, bitsOfBytes_leBytes32, bitsOfBytes_leBytes32, ← List.append_nil (_ ++ _)] at h
  obtain ⟨hstep, hread⟩ := h.run (i := .gzipTrailer _ _) (congrArg some hphase.symm) rfl
    (by rw [encodeBits, padBits_of_aligned hu.aligned, List.nil_append]) (exec_gzipTrailer_of_match hcrc hsize) nofun
  exact ⟨_, hstep, h.output ▸ hread, rfl⟩

/-- The fixed header of the encoder: no optional part, MTIME 0 (R365). -/
theorem bitsOfBytes_encGzip (b : List Byte) (xfl os : Byte) :
    bitsOfBytes (encGzip b xfl os) =
      lsbBits (0x1F : Byte) ++ lsbBits (0x8B : Byte) ++ lsbBits (8 : Byte) ++ lsbBits (0 : Byte) ++
        lsbBits (0 : BitVec 32) ++ lsbBits xfl ++ lsbBits os ++
      (bitsOfBytes (encDeflate b) ++ bitsOfBytes (leBytes32 (crcOf b) ++ leBytes32 (BitVec.ofNat 32 b.length))) := by
  rw [encGzip, List.append_assoc, List.append_assoc, bitsOfBytes_append, bitsOfBytes_append]
  rfl

/-- The GZIP operation: the header, the blocks, the trailer. -/
theorem gzip_passes {b : List Byte} {xfl os : Byte} {s : State} (hs : JustStarted (encGzip b xfl os) .gzip s) :
    ∃ t, Passes (fun _ => True) s t ∧ Reading (encGzip b xfl os) .gzip b [] t ∧ t.phase = .done := by
  have haligned : s.pc % 8 = 0 := by rw [hs.pc]
  have hread := hs.reading
  rw [bitsOfBytes_encGzip] at hread
  obtain ⟨haccepted, -⟩ := gzipHeader s 0x1F 0x8B 8 0 xfl os 0
  obtain ⟨hstep, hread⟩ := hread.run (i := .gzipHdr _ _ _ _ _ _ _) (congrArg some hs.phase.symm) rfl
    (by rw [encodeBits, padBits_of_aligned haligned, List.nil_append])
    (haccepted rfl rfl rfl) nofun
  obtain ⟨u, hpass, hread, hu, hacc⟩ := hs.passes_blocks hstep rfl (alignUp_add_aligned s.pc rfl) hread
  obtain ⟨t, hlast, ht, hdone⟩ := gzipTrailer_passes hu hacc hread
  exact ⟨t, hpass.tail ⟨trivial, hlast⟩, ht, hdone⟩

/-- Settles O58: each operation runs to DONE with nothing left to read. -/
theorem encoderRoundTrip : Obligations.EncoderRoundTrip := by
  intro b c eos cfg
  refine ⟨fun hw => ?_, fun level wbits hlo hhi => ?_, fun xfl os => ?_⟩
  · have hs := raw_justStarted hw c (encDeflate b) eos
    obtain ⟨t, hpass, ht, hdone⟩ := raw_passes hs
    exact completes_of_passes hs hpass ht hdone
  · have hs : JustStarted _ .zlib _ := started_justStarted 1 cfg (by simp) c (encZlib b level wbits) eos
    obtain ⟨t, hpass, ht, hdone⟩ := zlib_passes hlo hhi hs
    exact completes_of_passes hs hpass ht hdone
  · have hs : JustStarted _ .gzip _ := started_justStarted 2 cfg (by simp) c (encGzip b xfl os) eos
    obtain ⟨t, hpass, ht, hdone⟩ := gzip_passes hs
    exact completes_of_passes hs hpass ht hdone

end Sys2Proof.Machine
end
